-- ==== Sys2Proof/Word.lean ====
section
/-! DEFINITION. The words of the SIMD128 ALU: the operation word, the shape tag, the 128-bit data word, the index
byte and the error code (00_scope.md R5, R6). -/
namespace Sys2Proof

/-- A 128-bit data word (`VEC_BITS`, 00_scope.md R5). -/
abbrev Data := BitVec 128

/-- A 4-bit shape tag (`TAG_BITS`, 00_scope.md R5; 10_state.md R21). A port may carry any of the sixteen patterns. -/
abbrev Tag := BitVec 4

/-- The 32-bit operation word of port `OP` (`OPWORD_BITS`, 30_encoding.md R60). -/
abbrev OpWord := BitVec 32

/-- The 3-bit code of `RES_ERR` (`ERR_BITS`, 60_exceptions.md R170). -/
abbrev ErrCode := BitVec 3

/-- An index byte of port `IDX` (30_encoding.md R68). -/
abbrev Byte := BitVec 8

end Sys2Proof
end

