-- ==== Sys2Proof/Syntax.lean ====
section
/-! DEFINITION. The instructions of the SIMD128 ALU: one constructor of `Instr` for each of the 212 rows of
spec/opcode_table.json (30_encoding.md R64, section 7). A row is one 32-bit word without operand fields: the operation
and its shapes are all it says, and every operand arrives on a port (R61, R65). -/
namespace Sys2Proof

/-- The nine shapes (00_scope.md R2, 10_state.md R21): five numeric ones and a mask shape for each geometry. -/
inductive Shape where
  /-- F64x2, two binary64 lanes -/
  | f64x2
  /-- F32x4, four binary32 lanes -/
  | f32x4
  /-- I32x4, four 32-bit integers -/
  | i32x4
  /-- I16x8, eight 16-bit integers -/
  | i16x8
  /-- I8x16, sixteen 8-bit integers -/
  | i8x16
  /-- M64x2, mask of two 64-bit lanes -/
  | m64x2
  /-- M32x4, mask of four 32-bit lanes -/
  | m32x4
  /-- M16x8, mask of eight 16-bit lanes -/
  | m16x8
  /-- M8x16, mask of sixteen 8-bit lanes -/
  | m8x16
deriving DecidableEq, Repr

/-- The operations of the opcode map (30_encoding.md R62). -/
inductive Opc where
  | add
  | sub
  | mul
  | div
  | abs
  | neg
  | min
  | max
  | minnum
  | maxnum
  | clamp
  | sqrt
  | rcpa
  | rsqa
  | and
  | or
  | xor
  | not
  | lt
  | le
  | eq
  | ne
  | gt
  | ge
  | swizzle
  | shuffle
  | select
  | bitselect
  | cvt
  | bitcast
  | check
deriving DecidableEq, Repr

/-- The instructions: the operation, then its shape, then the source shape of a conversion. The constructor
`cvtF32x4I32x4` is `CVT.F32x4.I32x4`, destination first (30_encoding.md R73). -/
inductive Instr where
  | addF64x2 | addF32x4 | addI32x4 | addI16x8 | addI8x16
  | subF64x2 | subF32x4 | subI32x4 | subI16x8 | subI8x16
  | mulF64x2 | mulF32x4 | mulI32x4 | mulI16x8 | mulI8x16
  | divF64x2 | divF32x4 | divI32x4 | divI16x8 | divI8x16
  | absF64x2 | absF32x4 | absI32x4 | absI16x8 | absI8x16
  | negF64x2 | negF32x4 | negI32x4 | negI16x8 | negI8x16
  | minF64x2 | minF32x4 | minI32x4 | minI16x8 | minI8x16
  | maxF64x2 | maxF32x4 | maxI32x4 | maxI16x8 | maxI8x16
  | minnumF64x2 | minnumF32x4
  | maxnumF64x2 | maxnumF32x4
  | clampF64x2 | clampF32x4 | clampI32x4 | clampI16x8 | clampI8x16
  | sqrtF64x2 | sqrtF32x4
  | rcpaF64x2 | rcpaF32x4
  | rsqaF64x2 | rsqaF32x4
  | andF64x2 | andF32x4 | andI32x4 | andI16x8 | andI8x16
  | andM64x2 | andM32x4 | andM16x8 | andM8x16
  | orF64x2 | orF32x4 | orI32x4 | orI16x8 | orI8x16
  | orM64x2 | orM32x4 | orM16x8 | orM8x16
  | xorF64x2 | xorF32x4 | xorI32x4 | xorI16x8 | xorI8x16
  | xorM64x2 | xorM32x4 | xorM16x8 | xorM8x16
  | notF64x2 | notF32x4 | notI32x4 | notI16x8 | notI8x16
  | notM64x2 | notM32x4 | notM16x8 | notM8x16
  | ltF64x2 | ltF32x4 | ltI32x4 | ltI16x8 | ltI8x16
  | leF64x2 | leF32x4 | leI32x4 | leI16x8 | leI8x16
  | eqF64x2 | eqF32x4 | eqI32x4 | eqI16x8 | eqI8x16
  | neF64x2 | neF32x4 | neI32x4 | neI16x8 | neI8x16
  | gtF64x2 | gtF32x4 | gtI32x4 | gtI16x8 | gtI8x16
  | geF64x2 | geF32x4 | geI32x4 | geI16x8 | geI8x16
  | swizzleF64x2 | swizzleF32x4 | swizzleI32x4 | swizzleI16x8 | swizzleI8x16
  | swizzleM64x2 | swizzleM32x4 | swizzleM16x8 | swizzleM8x16
  | shuffleF64x2 | shuffleF32x4 | shuffleI32x4 | shuffleI16x8 | shuffleI8x16
  | shuffleM64x2 | shuffleM32x4 | shuffleM16x8 | shuffleM8x16
  | selectF64x2 | selectF32x4 | selectI32x4 | selectI16x8 | selectI8x16
  | selectM64x2 | selectM32x4 | selectM16x8 | selectM8x16
  | bitselectF64x2 | bitselectF32x4 | bitselectI32x4 | bitselectI16x8 | bitselectI8x16
  | cvtF64x2F64x2 | cvtF64x2F32x4 | cvtF64x2I32x4 | cvtF64x2I16x8 | cvtF64x2I8x16
  | cvtF32x4F64x2 | cvtF32x4F32x4 | cvtF32x4I32x4 | cvtF32x4I16x8 | cvtF32x4I8x16
  | cvtI32x4F64x2 | cvtI32x4F32x4 | cvtI32x4I32x4 | cvtI32x4I16x8 | cvtI32x4I8x16
  | cvtI16x8F64x2 | cvtI16x8F32x4 | cvtI16x8I32x4 | cvtI16x8I16x8 | cvtI16x8I8x16
  | cvtI8x16F64x2 | cvtI8x16F32x4 | cvtI8x16I32x4 | cvtI8x16I16x8 | cvtI8x16I8x16
  | bitcastF64x2F64x2 | bitcastF64x2F32x4 | bitcastF64x2I32x4 | bitcastF64x2I16x8 | bitcastF64x2I8x16
  | bitcastF32x4F64x2 | bitcastF32x4F32x4 | bitcastF32x4I32x4 | bitcastF32x4I16x8 | bitcastF32x4I8x16
  | bitcastI32x4F64x2 | bitcastI32x4F32x4 | bitcastI32x4I32x4 | bitcastI32x4I16x8 | bitcastI32x4I8x16
  | bitcastI16x8F64x2 | bitcastI16x8F32x4 | bitcastI16x8I32x4 | bitcastI16x8I16x8 | bitcastI16x8I8x16
  | bitcastI8x16F64x2 | bitcastI8x16F32x4 | bitcastI8x16I32x4 | bitcastI8x16I16x8 | bitcastI8x16I8x16
  | checkF64x2 | checkF32x4 | checkI32x4 | checkI16x8 | checkI8x16
  | checkM64x2 | checkM32x4 | checkM16x8 | checkM8x16
deriving DecidableEq, Repr

end Sys2Proof
end

