-- ==== Sys2Proof/WellFormed.lean ====
section
/-! DEFINITION. Which operation words are legal, as 30_encoding.md R60, R63 and R64 say it of the four fields of a
word. It is written apart from the decoder (Decode.lean), from the sets of R63, so that the two can be held against
each other. An `Instr` has no operand that could be ill-formed: every operand arrives on a port, where it is checked in
the step that issues it (Machine/Operands.lean). -/
namespace Sys2Proof

/-- The four fields of an operation word (30_encoding.md R60). -/
structure OpFields where
  /-- bits `[31:26]` -/
  opc : BitVec 6
  /-- bits `[25:22]` -/
  shape : Tag
  /-- bits `[21:18]` -/
  sshape : Tag
  /-- bits `[17:0]`, reserved -/
  rsvd : BitVec 18
deriving DecidableEq, Repr

/-- The fields of a word (30_encoding.md R60). -/
def OpFields.ofWord (w : OpWord) : OpFields where
  opc := w.extractLsb' 26 6
  shape := w.extractLsb' 22 4
  sshape := w.extractLsb' 18 4
  rsvd := w.extractLsb' 0 18

/-- `FLT` (10_state.md R21). -/
def tagsFLT : List Tag := [0x4#4, 0x5#4]

/-- `INT` (10_state.md R21). -/
def tagsINT : List Tag := [0x9#4, 0xA#4, 0xB#4]

/-- `NUM` (10_state.md R21). -/
def tagsNUM : List Tag := tagsFLT ++ tagsINT

/-- `MSK` (10_state.md R21). -/
def tagsMSK : List Tag := [0xC#4, 0xD#4, 0xE#4, 0xF#4]

/-- `ALL`, the nine valid tags (10_state.md R21). -/
def tagsALL : List Tag := tagsNUM ++ tagsMSK

/-- The `OPC` values whose legal `SHAPE` is NUM and that have no source shape: ADD to MAX, CLAMP, LT to GE and BITSELECT
(30_encoding.md R62, R63). -/
def opcsOverNUM : List (BitVec 6) :=
  [0x00#6, 0x01#6, 0x02#6, 0x03#6, 0x04#6, 0x05#6, 0x06#6, 0x07#6, 0x0A#6,
   0x18#6, 0x19#6, 0x1A#6, 0x1B#6, 0x1C#6, 0x1D#6, 0x25#6]

/-- MINNUM, MAXNUM, SQRT, RCPA, RSQA (30_encoding.md R63). -/
def opcsOverFLT : List (BitVec 6) := [0x08#6, 0x09#6, 0x0B#6, 0x0C#6, 0x0D#6]

/-- AND, OR, XOR, NOT, SWIZZLE, SHUFFLE, SELECT, CHECK (30_encoding.md R63). -/
def opcsOverALL : List (BitVec 6) :=
  [0x10#6, 0x11#6, 0x12#6, 0x13#6, 0x20#6, 0x21#6, 0x24#6, 0x2C#6]

/-- CVT and BITCAST, the two with a source shape (30_encoding.md R63). -/
def opcsConversion : List (BitVec 6) := [0x28#6, 0x29#6]

/-- `legalShape(OPC)`, with no member for a reserved `OPC` (30_encoding.md R63). -/
def legalShapes (opc : BitVec 6) : List Tag :=
  if opcsOverNUM.contains opc || opcsConversion.contains opc then tagsNUM
  else if opcsOverFLT.contains opc then tagsFLT
  else if opcsOverALL.contains opc then tagsALL
  else []

/-- `legal(OP)` on the fields of a word (30_encoding.md R64). -/
def OpFields.legal (f : OpFields) : Bool :=
  f.rsvd == 0#18
    && (legalShapes f.opc).contains f.shape
    && (if opcsConversion.contains f.opc then tagsNUM.contains f.sshape else f.sshape == 0x0#4)

/-- `legal(OP)` (30_encoding.md R64). -/
def legalWord (w : OpWord) : Bool := (OpFields.ofWord w).legal

end Sys2Proof
end

