-- ==== Sys2Proof/Decode.lean ====
section
/-! DEFINITION. Decoding of an operation word, total and rejecting by name, and encoding back (30_encoding.md R60 to
R64, R70). The numbers of the opcode map (R62) and of the shape tags (10_state.md R21) stand here. -/
namespace Sys2Proof

/-- The tag of a shape (10_state.md R21). -/
def Shape.tag : Shape → Tag
  | .f64x2 => 0x4#4
  | .f32x4 => 0x5#4
  | .i32x4 => 0x9#4
  | .i16x8 => 0xA#4
  | .i8x16 => 0xB#4
  | .m64x2 => 0xC#4
  | .m32x4 => 0xD#4
  | .m16x8 => 0xE#4
  | .m8x16 => 0xF#4

/-- The shape of a tag; none for NONE and the reserved tags (10_state.md R21). -/
def Shape.ofTag (t : Tag) : Option Shape :=
  match t.toNat with
  | 0x4 => some .f64x2
  | 0x5 => some .f32x4
  | 0x9 => some .i32x4
  | 0xA => some .i16x8
  | 0xB => some .i8x16
  | 0xC => some .m64x2
  | 0xD => some .m32x4
  | 0xE => some .m16x8
  | 0xF => some .m8x16
  | _ => none

/-- The `OPC` value of an operation (30_encoding.md R62). -/
def Opc.code : Opc → BitVec 6
  | .add => 0x00#6
  | .sub => 0x01#6
  | .mul => 0x02#6
  | .div => 0x03#6
  | .abs => 0x04#6
  | .neg => 0x05#6
  | .min => 0x06#6
  | .max => 0x07#6
  | .minnum => 0x08#6
  | .maxnum => 0x09#6
  | .clamp => 0x0A#6
  | .sqrt => 0x0B#6
  | .rcpa => 0x0C#6
  | .rsqa => 0x0D#6
  | .and => 0x10#6
  | .or => 0x11#6
  | .xor => 0x12#6
  | .not => 0x13#6
  | .lt => 0x18#6
  | .le => 0x19#6
  | .eq => 0x1A#6
  | .ne => 0x1B#6
  | .gt => 0x1C#6
  | .ge => 0x1D#6
  | .swizzle => 0x20#6
  | .shuffle => 0x21#6
  | .select => 0x24#6
  | .bitselect => 0x25#6
  | .cvt => 0x28#6
  | .bitcast => 0x29#6
  | .check => 0x2C#6

/-- The operation of an `OPC` value; none for a reserved value (30_encoding.md R62, R70). -/
def Opc.ofCode (c : BitVec 6) : Option Opc :=
  match c.toNat with
  | 0x00 => some .add
  | 0x01 => some .sub
  | 0x02 => some .mul
  | 0x03 => some .div
  | 0x04 => some .abs
  | 0x05 => some .neg
  | 0x06 => some .min
  | 0x07 => some .max
  | 0x08 => some .minnum
  | 0x09 => some .maxnum
  | 0x0A => some .clamp
  | 0x0B => some .sqrt
  | 0x0C => some .rcpa
  | 0x0D => some .rsqa
  | 0x10 => some .and
  | 0x11 => some .or
  | 0x12 => some .xor
  | 0x13 => some .not
  | 0x18 => some .lt
  | 0x19 => some .le
  | 0x1A => some .eq
  | 0x1B => some .ne
  | 0x1C => some .gt
  | 0x1D => some .ge
  | 0x20 => some .swizzle
  | 0x21 => some .shuffle
  | 0x24 => some .select
  | 0x25 => some .bitselect
  | 0x28 => some .cvt
  | 0x29 => some .bitcast
  | 0x2C => some .check
  | _ => none

/-- The operation of an instruction. -/
def Instr.opc : Instr → Opc
  | .addF64x2 | .addF32x4 | .addI32x4 | .addI16x8 | .addI8x16 => .add
  | .subF64x2 | .subF32x4 | .subI32x4 | .subI16x8 | .subI8x16 => .sub
  | .mulF64x2 | .mulF32x4 | .mulI32x4 | .mulI16x8 | .mulI8x16 => .mul
  | .divF64x2 | .divF32x4 | .divI32x4 | .divI16x8 | .divI8x16 => .div
  | .absF64x2 | .absF32x4 | .absI32x4 | .absI16x8 | .absI8x16 => .abs
  | .negF64x2 | .negF32x4 | .negI32x4 | .negI16x8 | .negI8x16 => .neg
  | .minF64x2 | .minF32x4 | .minI32x4 | .minI16x8 | .minI8x16 => .min
  | .maxF64x2 | .maxF32x4 | .maxI32x4 | .maxI16x8 | .maxI8x16 => .max
  | .minnumF64x2 | .minnumF32x4 => .minnum
  | .maxnumF64x2 | .maxnumF32x4 => .maxnum
  | .clampF64x2 | .clampF32x4 | .clampI32x4 | .clampI16x8 | .clampI8x16 => .clamp
  | .sqrtF64x2 | .sqrtF32x4 => .sqrt
  | .rcpaF64x2 | .rcpaF32x4 => .rcpa
  | .rsqaF64x2 | .rsqaF32x4 => .rsqa
  | .andF64x2 | .andF32x4 | .andI32x4 | .andI16x8 | .andI8x16
  | .andM64x2 | .andM32x4 | .andM16x8 | .andM8x16 => .and
  | .orF64x2 | .orF32x4 | .orI32x4 | .orI16x8 | .orI8x16
  | .orM64x2 | .orM32x4 | .orM16x8 | .orM8x16 => .or
  | .xorF64x2 | .xorF32x4 | .xorI32x4 | .xorI16x8 | .xorI8x16
  | .xorM64x2 | .xorM32x4 | .xorM16x8 | .xorM8x16 => .xor
  | .notF64x2 | .notF32x4 | .notI32x4 | .notI16x8 | .notI8x16
  | .notM64x2 | .notM32x4 | .notM16x8 | .notM8x16 => .not
  | .ltF64x2 | .ltF32x4 | .ltI32x4 | .ltI16x8 | .ltI8x16 => .lt
  | .leF64x2 | .leF32x4 | .leI32x4 | .leI16x8 | .leI8x16 => .le
  | .eqF64x2 | .eqF32x4 | .eqI32x4 | .eqI16x8 | .eqI8x16 => .eq
  | .neF64x2 | .neF32x4 | .neI32x4 | .neI16x8 | .neI8x16 => .ne
  | .gtF64x2 | .gtF32x4 | .gtI32x4 | .gtI16x8 | .gtI8x16 => .gt
  | .geF64x2 | .geF32x4 | .geI32x4 | .geI16x8 | .geI8x16 => .ge
  | .swizzleF64x2 | .swizzleF32x4 | .swizzleI32x4 | .swizzleI16x8 | .swizzleI8x16
  | .swizzleM64x2 | .swizzleM32x4 | .swizzleM16x8 | .swizzleM8x16 => .swizzle
  | .shuffleF64x2 | .shuffleF32x4 | .shuffleI32x4 | .shuffleI16x8 | .shuffleI8x16
  | .shuffleM64x2 | .shuffleM32x4 | .shuffleM16x8 | .shuffleM8x16 => .shuffle
  | .selectF64x2 | .selectF32x4 | .selectI32x4 | .selectI16x8 | .selectI8x16
  | .selectM64x2 | .selectM32x4 | .selectM16x8 | .selectM8x16 => .select
  | .bitselectF64x2 | .bitselectF32x4 | .bitselectI32x4 | .bitselectI16x8 | .bitselectI8x16 => .bitselect
  | .cvtF64x2F64x2 | .cvtF64x2F32x4 | .cvtF64x2I32x4 | .cvtF64x2I16x8 | .cvtF64x2I8x16
  | .cvtF32x4F64x2 | .cvtF32x4F32x4 | .cvtF32x4I32x4 | .cvtF32x4I16x8 | .cvtF32x4I8x16
  | .cvtI32x4F64x2 | .cvtI32x4F32x4 | .cvtI32x4I32x4 | .cvtI32x4I16x8 | .cvtI32x4I8x16
  | .cvtI16x8F64x2 | .cvtI16x8F32x4 | .cvtI16x8I32x4 | .cvtI16x8I16x8 | .cvtI16x8I8x16
  | .cvtI8x16F64x2 | .cvtI8x16F32x4 | .cvtI8x16I32x4 | .cvtI8x16I16x8 | .cvtI8x16I8x16 => .cvt
  | .bitcastF64x2F64x2 | .bitcastF64x2F32x4 | .bitcastF64x2I32x4 | .bitcastF64x2I16x8 | .bitcastF64x2I8x16
  | .bitcastF32x4F64x2 | .bitcastF32x4F32x4 | .bitcastF32x4I32x4 | .bitcastF32x4I16x8 | .bitcastF32x4I8x16
  | .bitcastI32x4F64x2 | .bitcastI32x4F32x4 | .bitcastI32x4I32x4 | .bitcastI32x4I16x8 | .bitcastI32x4I8x16
  | .bitcastI16x8F64x2 | .bitcastI16x8F32x4 | .bitcastI16x8I32x4 | .bitcastI16x8I16x8 | .bitcastI16x8I8x16
  | .bitcastI8x16F64x2 | .bitcastI8x16F32x4 | .bitcastI8x16I32x4 | .bitcastI8x16I16x8 | .bitcastI8x16I8x16 => .bitcast
  | .checkF64x2 | .checkF32x4 | .checkI32x4 | .checkI16x8 | .checkI8x16
  | .checkM64x2 | .checkM32x4 | .checkM16x8 | .checkM8x16 => .check

/-- The `SHAPE` of an instruction: the destination shape of CVT and BITCAST (30_encoding.md R60). -/
def Instr.shape : Instr → Shape
  | .addF64x2 | .subF64x2 | .mulF64x2 | .divF64x2 | .absF64x2
  | .negF64x2 | .minF64x2 | .maxF64x2 | .minnumF64x2 | .maxnumF64x2
  | .clampF64x2 | .sqrtF64x2 | .rcpaF64x2 | .rsqaF64x2 | .andF64x2
  | .orF64x2 | .xorF64x2 | .notF64x2 | .ltF64x2 | .leF64x2
  | .eqF64x2 | .neF64x2 | .gtF64x2 | .geF64x2 | .swizzleF64x2
  | .shuffleF64x2 | .selectF64x2 | .bitselectF64x2 | .cvtF64x2F64x2 | .cvtF64x2F32x4
  | .cvtF64x2I32x4 | .cvtF64x2I16x8 | .cvtF64x2I8x16 | .bitcastF64x2F64x2 | .bitcastF64x2F32x4
  | .bitcastF64x2I32x4 | .bitcastF64x2I16x8 | .bitcastF64x2I8x16 | .checkF64x2 => .f64x2
  | .addF32x4 | .subF32x4 | .mulF32x4 | .divF32x4 | .absF32x4
  | .negF32x4 | .minF32x4 | .maxF32x4 | .minnumF32x4 | .maxnumF32x4
  | .clampF32x4 | .sqrtF32x4 | .rcpaF32x4 | .rsqaF32x4 | .andF32x4
  | .orF32x4 | .xorF32x4 | .notF32x4 | .ltF32x4 | .leF32x4
  | .eqF32x4 | .neF32x4 | .gtF32x4 | .geF32x4 | .swizzleF32x4
  | .shuffleF32x4 | .selectF32x4 | .bitselectF32x4 | .cvtF32x4F64x2 | .cvtF32x4F32x4
  | .cvtF32x4I32x4 | .cvtF32x4I16x8 | .cvtF32x4I8x16 | .bitcastF32x4F64x2 | .bitcastF32x4F32x4
  | .bitcastF32x4I32x4 | .bitcastF32x4I16x8 | .bitcastF32x4I8x16 | .checkF32x4 => .f32x4
  | .addI32x4 | .subI32x4 | .mulI32x4 | .divI32x4 | .absI32x4
  | .negI32x4 | .minI32x4 | .maxI32x4 | .clampI32x4 | .andI32x4
  | .orI32x4 | .xorI32x4 | .notI32x4 | .ltI32x4 | .leI32x4
  | .eqI32x4 | .neI32x4 | .gtI32x4 | .geI32x4 | .swizzleI32x4
  | .shuffleI32x4 | .selectI32x4 | .bitselectI32x4 | .cvtI32x4F64x2 | .cvtI32x4F32x4
  | .cvtI32x4I32x4 | .cvtI32x4I16x8 | .cvtI32x4I8x16 | .bitcastI32x4F64x2 | .bitcastI32x4F32x4
  | .bitcastI32x4I32x4 | .bitcastI32x4I16x8 | .bitcastI32x4I8x16 | .checkI32x4 => .i32x4
  | .addI16x8 | .subI16x8 | .mulI16x8 | .divI16x8 | .absI16x8
  | .negI16x8 | .minI16x8 | .maxI16x8 | .clampI16x8 | .andI16x8
  | .orI16x8 | .xorI16x8 | .notI16x8 | .ltI16x8 | .leI16x8
  | .eqI16x8 | .neI16x8 | .gtI16x8 | .geI16x8 | .swizzleI16x8
  | .shuffleI16x8 | .selectI16x8 | .bitselectI16x8 | .cvtI16x8F64x2 | .cvtI16x8F32x4
  | .cvtI16x8I32x4 | .cvtI16x8I16x8 | .cvtI16x8I8x16 | .bitcastI16x8F64x2 | .bitcastI16x8F32x4
  | .bitcastI16x8I32x4 | .bitcastI16x8I16x8 | .bitcastI16x8I8x16 | .checkI16x8 => .i16x8
  | .addI8x16 | .subI8x16 | .mulI8x16 | .divI8x16 | .absI8x16
  | .negI8x16 | .minI8x16 | .maxI8x16 | .clampI8x16 | .andI8x16
  | .orI8x16 | .xorI8x16 | .notI8x16 | .ltI8x16 | .leI8x16
  | .eqI8x16 | .neI8x16 | .gtI8x16 | .geI8x16 | .swizzleI8x16
  | .shuffleI8x16 | .selectI8x16 | .bitselectI8x16 | .cvtI8x16F64x2 | .cvtI8x16F32x4
  | .cvtI8x16I32x4 | .cvtI8x16I16x8 | .cvtI8x16I8x16 | .bitcastI8x16F64x2 | .bitcastI8x16F32x4
  | .bitcastI8x16I32x4 | .bitcastI8x16I16x8 | .bitcastI8x16I8x16 | .checkI8x16 => .i8x16
  | .andM64x2 | .orM64x2 | .xorM64x2 | .notM64x2 | .swizzleM64x2
  | .shuffleM64x2 | .selectM64x2 | .checkM64x2 => .m64x2
  | .andM32x4 | .orM32x4 | .xorM32x4 | .notM32x4 | .swizzleM32x4
  | .shuffleM32x4 | .selectM32x4 | .checkM32x4 => .m32x4
  | .andM16x8 | .orM16x8 | .xorM16x8 | .notM16x8 | .swizzleM16x8
  | .shuffleM16x8 | .selectM16x8 | .checkM16x8 => .m16x8
  | .andM8x16 | .orM8x16 | .xorM8x16 | .notM8x16 | .swizzleM8x16
  | .shuffleM8x16 | .selectM8x16 | .checkM8x16 => .m8x16

/-- The source shape of CVT and BITCAST; none for every other operation, whose `SSHAPE` is `0x0`
(30_encoding.md R60, R63). -/
def Instr.source : Instr → Option Shape
  | .addF64x2 | .addF32x4 | .addI32x4 | .addI16x8 | .addI8x16
  | .subF64x2 | .subF32x4 | .subI32x4 | .subI16x8 | .subI8x16
  | .mulF64x2 | .mulF32x4 | .mulI32x4 | .mulI16x8 | .mulI8x16
  | .divF64x2 | .divF32x4 | .divI32x4 | .divI16x8 | .divI8x16
  | .absF64x2 | .absF32x4 | .absI32x4 | .absI16x8 | .absI8x16
  | .negF64x2 | .negF32x4 | .negI32x4 | .negI16x8 | .negI8x16
  | .minF64x2 | .minF32x4 | .minI32x4 | .minI16x8 | .minI8x16
  | .maxF64x2 | .maxF32x4 | .maxI32x4 | .maxI16x8 | .maxI8x16
  | .minnumF64x2 | .minnumF32x4 | .maxnumF64x2 | .maxnumF32x4 | .clampF64x2
  | .clampF32x4 | .clampI32x4 | .clampI16x8 | .clampI8x16 | .sqrtF64x2
  | .sqrtF32x4 | .rcpaF64x2 | .rcpaF32x4 | .rsqaF64x2 | .rsqaF32x4
  | .andF64x2 | .andF32x4 | .andI32x4 | .andI16x8 | .andI8x16
  | .andM64x2 | .andM32x4 | .andM16x8 | .andM8x16 | .orF64x2
  | .orF32x4 | .orI32x4 | .orI16x8 | .orI8x16 | .orM64x2
  | .orM32x4 | .orM16x8 | .orM8x16 | .xorF64x2 | .xorF32x4
  | .xorI32x4 | .xorI16x8 | .xorI8x16 | .xorM64x2 | .xorM32x4
  | .xorM16x8 | .xorM8x16 | .notF64x2 | .notF32x4 | .notI32x4
  | .notI16x8 | .notI8x16 | .notM64x2 | .notM32x4 | .notM16x8
  | .notM8x16 | .ltF64x2 | .ltF32x4 | .ltI32x4 | .ltI16x8
  | .ltI8x16 | .leF64x2 | .leF32x4 | .leI32x4 | .leI16x8
  | .leI8x16 | .eqF64x2 | .eqF32x4 | .eqI32x4 | .eqI16x8
  | .eqI8x16 | .neF64x2 | .neF32x4 | .neI32x4 | .neI16x8
  | .neI8x16 | .gtF64x2 | .gtF32x4 | .gtI32x4 | .gtI16x8
  | .gtI8x16 | .geF64x2 | .geF32x4 | .geI32x4 | .geI16x8
  | .geI8x16 | .swizzleF64x2 | .swizzleF32x4 | .swizzleI32x4 | .swizzleI16x8
  | .swizzleI8x16 | .swizzleM64x2 | .swizzleM32x4 | .swizzleM16x8 | .swizzleM8x16
  | .shuffleF64x2 | .shuffleF32x4 | .shuffleI32x4 | .shuffleI16x8 | .shuffleI8x16
  | .shuffleM64x2 | .shuffleM32x4 | .shuffleM16x8 | .shuffleM8x16 | .selectF64x2
  | .selectF32x4 | .selectI32x4 | .selectI16x8 | .selectI8x16 | .selectM64x2
  | .selectM32x4 | .selectM16x8 | .selectM8x16 | .bitselectF64x2 | .bitselectF32x4
  | .bitselectI32x4 | .bitselectI16x8 | .bitselectI8x16 | .checkF64x2 | .checkF32x4
  | .checkI32x4 | .checkI16x8 | .checkI8x16 | .checkM64x2 | .checkM32x4
  | .checkM16x8 | .checkM8x16 => none
  | .cvtF64x2F64x2 | .cvtF32x4F64x2 | .cvtI32x4F64x2 | .cvtI16x8F64x2 | .cvtI8x16F64x2
  | .bitcastF64x2F64x2 | .bitcastF32x4F64x2 | .bitcastI32x4F64x2 | .bitcastI16x8F64x2 | .bitcastI8x16F64x2 => some .f64x2
  | .cvtF64x2F32x4 | .cvtF32x4F32x4 | .cvtI32x4F32x4 | .cvtI16x8F32x4 | .cvtI8x16F32x4
  | .bitcastF64x2F32x4 | .bitcastF32x4F32x4 | .bitcastI32x4F32x4 | .bitcastI16x8F32x4 | .bitcastI8x16F32x4 => some .f32x4
  | .cvtF64x2I32x4 | .cvtF32x4I32x4 | .cvtI32x4I32x4 | .cvtI16x8I32x4 | .cvtI8x16I32x4
  | .bitcastF64x2I32x4 | .bitcastF32x4I32x4 | .bitcastI32x4I32x4 | .bitcastI16x8I32x4 | .bitcastI8x16I32x4 => some .i32x4
  | .cvtF64x2I16x8 | .cvtF32x4I16x8 | .cvtI32x4I16x8 | .cvtI16x8I16x8 | .cvtI8x16I16x8
  | .bitcastF64x2I16x8 | .bitcastF32x4I16x8 | .bitcastI32x4I16x8 | .bitcastI16x8I16x8 | .bitcastI8x16I16x8 => some .i16x8
  | .cvtF64x2I8x16 | .cvtF32x4I8x16 | .cvtI32x4I8x16 | .cvtI16x8I8x16 | .cvtI8x16I8x16
  | .bitcastF64x2I8x16 | .bitcastF32x4I8x16 | .bitcastI32x4I8x16 | .bitcastI16x8I8x16 | .bitcastI8x16I8x16 => some .i8x16

/-- The fields of an instruction's word (30_encoding.md R60). -/
def Instr.fields (i : Instr) : OpFields where
  opc := Opc.code (Instr.opc i)
  shape := Shape.tag (Instr.shape i)
  sshape := match Instr.source i with
    | some s => Shape.tag s
    | none => 0x0#4
  rsvd := 0#18

/-- `OP = {OPC, SHAPE, SSHAPE, 18'b0}` (30_encoding.md R60). -/
def OpFields.word (f : OpFields) : OpWord := f.opc ++ f.shape ++ f.sshape ++ f.rsvd

/-- The word of an instruction (30_encoding.md R60). -/
def encode (i : Instr) : OpWord := OpFields.word (Instr.fields i)

/-- Why a word is reserved (30_encoding.md R70). Issuing it raises IllegalOp, whichever of these holds. -/
inductive DecodeError where
  /-- a bit of `[17:0]` is set -/
  | reservedBits
  /-- `OPC` is not in the opcode map -/
  | reservedOpc
  /-- `SHAPE` is outside the operation's set -/
  | illegalShape
  /-- `SSHAPE` is not numeric on CVT or BITCAST, or not `0x0` on another operation -/
  | illegalSource
deriving DecidableEq, Repr

/-- The instruction of a shape in FLT (30_encoding.md R63). -/
def pickFlt (sh : Shape) (f64x2 f32x4 : Instr) : Option Instr :=
  match sh with
  | .f64x2 => some f64x2
  | .f32x4 => some f32x4
  | .i32x4 | .i16x8 | .i8x16 | .m64x2 | .m32x4 | .m16x8 | .m8x16 => none

/-- The instruction of a shape in NUM (30_encoding.md R63). -/
def pickNum (sh : Shape) (f64x2 f32x4 i32x4 i16x8 i8x16 : Instr) : Option Instr :=
  match sh with
  | .f64x2 => some f64x2
  | .f32x4 => some f32x4
  | .i32x4 => some i32x4
  | .i16x8 => some i16x8
  | .i8x16 => some i8x16
  | .m64x2 | .m32x4 | .m16x8 | .m8x16 => none

/-- The instruction of a shape in ALL (30_encoding.md R63). -/
def pickAll (sh : Shape) (f64x2 f32x4 i32x4 i16x8 i8x16 m64x2 m32x4 m16x8 m8x16 : Instr) : Instr :=
  match sh with
  | .f64x2 => f64x2
  | .f32x4 => f32x4
  | .i32x4 => i32x4
  | .i16x8 => i16x8
  | .i8x16 => i8x16
  | .m64x2 => m64x2
  | .m32x4 => m32x4
  | .m16x8 => m16x8
  | .m8x16 => m8x16

/-- The instruction of a conversion between two shapes; none unless both are numeric (30_encoding.md R63). -/
def conversionOf (op : Opc) (dst src : Shape) : Option Instr :=
  match op, src with
  | .cvt, .f64x2 => pickNum dst .cvtF64x2F64x2 .cvtF32x4F64x2 .cvtI32x4F64x2 .cvtI16x8F64x2 .cvtI8x16F64x2
  | .cvt, .f32x4 => pickNum dst .cvtF64x2F32x4 .cvtF32x4F32x4 .cvtI32x4F32x4 .cvtI16x8F32x4 .cvtI8x16F32x4
  | .cvt, .i32x4 => pickNum dst .cvtF64x2I32x4 .cvtF32x4I32x4 .cvtI32x4I32x4 .cvtI16x8I32x4 .cvtI8x16I32x4
  | .cvt, .i16x8 => pickNum dst .cvtF64x2I16x8 .cvtF32x4I16x8 .cvtI32x4I16x8 .cvtI16x8I16x8 .cvtI8x16I16x8
  | .cvt, .i8x16 => pickNum dst .cvtF64x2I8x16 .cvtF32x4I8x16 .cvtI32x4I8x16 .cvtI16x8I8x16 .cvtI8x16I8x16
  | .bitcast, .f64x2 => pickNum dst .bitcastF64x2F64x2 .bitcastF32x4F64x2 .bitcastI32x4F64x2 .bitcastI16x8F64x2 .bitcastI8x16F64x2
  | .bitcast, .f32x4 => pickNum dst .bitcastF64x2F32x4 .bitcastF32x4F32x4 .bitcastI32x4F32x4 .bitcastI16x8F32x4 .bitcastI8x16F32x4
  | .bitcast, .i32x4 => pickNum dst .bitcastF64x2I32x4 .bitcastF32x4I32x4 .bitcastI32x4I32x4 .bitcastI16x8I32x4 .bitcastI8x16I32x4
  | .bitcast, .i16x8 => pickNum dst .bitcastF64x2I16x8 .bitcastF32x4I16x8 .bitcastI32x4I16x8 .bitcastI16x8I16x8 .bitcastI8x16I16x8
  | .bitcast, .i8x16 => pickNum dst .bitcastF64x2I8x16 .bitcastF32x4I8x16 .bitcastI32x4I8x16 .bitcastI16x8I8x16 .bitcastI8x16I8x16
  | _, _ => none

/-- The instruction of an operation without a source shape; none if the shape is outside the operation's set or the
operation is a conversion (30_encoding.md R63). -/
def plainOf (op : Opc) (sh : Shape) : Option Instr :=
  match op with
  | .add => pickNum sh .addF64x2 .addF32x4 .addI32x4 .addI16x8 .addI8x16
  | .sub => pickNum sh .subF64x2 .subF32x4 .subI32x4 .subI16x8 .subI8x16
  | .mul => pickNum sh .mulF64x2 .mulF32x4 .mulI32x4 .mulI16x8 .mulI8x16
  | .div => pickNum sh .divF64x2 .divF32x4 .divI32x4 .divI16x8 .divI8x16
  | .abs => pickNum sh .absF64x2 .absF32x4 .absI32x4 .absI16x8 .absI8x16
  | .neg => pickNum sh .negF64x2 .negF32x4 .negI32x4 .negI16x8 .negI8x16
  | .min => pickNum sh .minF64x2 .minF32x4 .minI32x4 .minI16x8 .minI8x16
  | .max => pickNum sh .maxF64x2 .maxF32x4 .maxI32x4 .maxI16x8 .maxI8x16
  | .minnum => pickFlt sh .minnumF64x2 .minnumF32x4
  | .maxnum => pickFlt sh .maxnumF64x2 .maxnumF32x4
  | .clamp => pickNum sh .clampF64x2 .clampF32x4 .clampI32x4 .clampI16x8 .clampI8x16
  | .sqrt => pickFlt sh .sqrtF64x2 .sqrtF32x4
  | .rcpa => pickFlt sh .rcpaF64x2 .rcpaF32x4
  | .rsqa => pickFlt sh .rsqaF64x2 .rsqaF32x4
  | .and => some (pickAll sh .andF64x2 .andF32x4 .andI32x4 .andI16x8 .andI8x16 .andM64x2 .andM32x4 .andM16x8
      .andM8x16)
  | .or => some (pickAll sh .orF64x2 .orF32x4 .orI32x4 .orI16x8 .orI8x16 .orM64x2 .orM32x4 .orM16x8 .orM8x16)
  | .xor => some (pickAll sh .xorF64x2 .xorF32x4 .xorI32x4 .xorI16x8 .xorI8x16 .xorM64x2 .xorM32x4 .xorM16x8
      .xorM8x16)
  | .not => some (pickAll sh .notF64x2 .notF32x4 .notI32x4 .notI16x8 .notI8x16 .notM64x2 .notM32x4 .notM16x8
      .notM8x16)
  | .lt => pickNum sh .ltF64x2 .ltF32x4 .ltI32x4 .ltI16x8 .ltI8x16
  | .le => pickNum sh .leF64x2 .leF32x4 .leI32x4 .leI16x8 .leI8x16
  | .eq => pickNum sh .eqF64x2 .eqF32x4 .eqI32x4 .eqI16x8 .eqI8x16
  | .ne => pickNum sh .neF64x2 .neF32x4 .neI32x4 .neI16x8 .neI8x16
  | .gt => pickNum sh .gtF64x2 .gtF32x4 .gtI32x4 .gtI16x8 .gtI8x16
  | .ge => pickNum sh .geF64x2 .geF32x4 .geI32x4 .geI16x8 .geI8x16
  | .swizzle => some (pickAll sh .swizzleF64x2 .swizzleF32x4 .swizzleI32x4 .swizzleI16x8 .swizzleI8x16
      .swizzleM64x2 .swizzleM32x4 .swizzleM16x8 .swizzleM8x16)
  | .shuffle => some (pickAll sh .shuffleF64x2 .shuffleF32x4 .shuffleI32x4 .shuffleI16x8 .shuffleI8x16
      .shuffleM64x2 .shuffleM32x4 .shuffleM16x8 .shuffleM8x16)
  | .select => some (pickAll sh .selectF64x2 .selectF32x4 .selectI32x4 .selectI16x8 .selectI8x16 .selectM64x2
      .selectM32x4 .selectM16x8 .selectM8x16)
  | .bitselect => pickNum sh .bitselectF64x2 .bitselectF32x4 .bitselectI32x4 .bitselectI16x8 .bitselectI8x16
  | .check => some (pickAll sh .checkF64x2 .checkF32x4 .checkI32x4 .checkI16x8 .checkI8x16 .checkM64x2
      .checkM32x4 .checkM16x8 .checkM8x16)
  | .cvt => none
  | .bitcast => none

/-- The operation has a source shape (30_encoding.md R63). -/
def Opc.isConversion (op : Opc) : Bool := op == .cvt || op == .bitcast

/-- The instruction of a word's fields, or why the word is reserved (30_encoding.md R64, R70). -/
def decodeFields (f : OpFields) : Except DecodeError Instr :=
  if f.rsvd ≠ 0#18 then .error .reservedBits
  else match Opc.ofCode f.opc with
    | none => .error .reservedOpc
    | some op =>
      match Shape.ofTag f.shape with
      | none => .error .illegalShape
      | some sh =>
        if Opc.isConversion op then
          match Shape.ofTag f.sshape with
          | none => .error .illegalSource
          | some src =>
            match conversionOf op sh src with
            | some i => .ok i
            | none => if (Shape.tag src).extractLsb' 2 2 = 0b11#2 then .error .illegalSource else .error .illegalShape
        else
          match plainOf op sh with
          | none => .error .illegalShape
          | some i => if f.sshape = 0x0#4 then .ok i else .error .illegalSource

/-- Decoding of an operation word (30_encoding.md R64). It depends on the word alone. -/
def decodeWord (w : OpWord) : Except DecodeError Instr := decodeFields (OpFields.ofWord w)

/-- What the decoder reads from an instruction whose bits are `w`, given as the opcode table numbers them. The word is
32 bits, presented whole on port `OP` (30_encoding.md R71), so there is no byte order to undo. -/
def decodeTableWord (nbits w : Nat) : Option Instr :=
  if w % 2 ^ nbits < 2 ^ 32 then
    match decodeWord (BitVec.ofNat 32 (w % 2 ^ nbits)) with
    | .ok i => some i
    | .error _ => none
  else none

end Sys2Proof
end

