-- ==== Sys2Proof/Machine/Lanes.lean ====
section
/-! DEFINITION. Lanes of a 128-bit data word (00_scope.md R8, 20_memory.md R40) and the geometry of shapes and tags
(10_state.md R21). Lane order and byte order are decided here and nowhere else. -/
namespace Sys2Proof.Machine

/-- `lane_w(v, i) = v[w*i + w - 1 : w*i]` (00_scope.md R8, 20_memory.md R40): lane 0 is the least significant. -/
def lane (w : Nat) (d : Data) (i : Nat) : BitVec w := d.extractLsb' (w * i) w

/-- `vec_w(l_0, ..., l_{n-1})`: the data word whose lane `i` is `f i` for `i < n` and whose other bits are zero
(00_scope.md R8). -/
def vec (w : Nat) (f : Nat → BitVec w) : Nat → Data
  | 0 => 0#128
  | n + 1 => vec w f n ||| ((f n).setWidth 128 <<< (w * n))

/-- Byte `j` of a data word, bits `[8*j + 7 : 8*j]` (20_memory.md R40). -/
def dataByte (d : Data) (j : Nat) : Byte := lane 8 d j

/-- The lane width `w` of a shape (10_state.md R21). -/
def shapeWidth : Shape → Nat
  | .f64x2 => 64
  | .f32x4 => 32
  | .i32x4 => 32
  | .i16x8 => 16
  | .i8x16 => 8
  | .m64x2 => 64
  | .m32x4 => 32
  | .m16x8 => 16
  | .m8x16 => 8

/-- The lane count `N` of a shape (10_state.md R21). -/
def shapeLanes : Shape → Nat
  | .f64x2 => 2
  | .f32x4 => 4
  | .i32x4 => 4
  | .i16x8 => 8
  | .i8x16 => 16
  | .m64x2 => 2
  | .m32x4 => 4
  | .m16x8 => 8
  | .m8x16 => 16

/-- NONE, the tag of no value (10_state.md R21). -/
def tagNone : Tag := 0x0#4

/-- `g(t) = t[1:0]` (10_state.md R21). -/
def tagGeometry (t : Tag) : BitVec 2 := t.extractLsb' 0 2

/-- `w(t) = 64 >> g(t)` (10_state.md R21). -/
def tagWidth (t : Tag) : Nat := 64 >>> (tagGeometry t).toNat

/-- `N(t) = 2 << g(t)` (10_state.md R21). -/
def tagLanes (t : Tag) : Nat := 2 <<< (tagGeometry t).toNat

/-- `validTag(t)`: the tag is one of the nine of ALL (10_state.md R21). -/
def validTag (t : Tag) : Bool := (Shape.ofTag t).isSome

/-- `t ∈ MSK`: the class bits are `11` (10_state.md R21). -/
def isMaskTag (t : Tag) : Bool := t.extractLsb' 2 2 == 0b11#2

/-- `maskOf(t) = {11, g(t)}` (10_state.md R21). -/
def maskOf (t : Tag) : Tag := 0b11#2 ++ tagGeometry t

end Sys2Proof.Machine
end

