-- ==== Sys2Proof/Machine/Flags.lean ====
section
/-! DEFINITION. The block has no flags, condition codes or floating-point exception flags (10_state.md R27). What it
has in their place stands here: the error codes of `RES_ERR` (60_exceptions.md R170) and the mask lane a comparison
generates from a predicate (44_compare.md R141). -/
namespace Sys2Proof.Machine

/-- The four errors (60_exceptions.md R170). Code 0, OK, is no error; codes 5 to 7 are never written. -/
inductive OpError where
  | typeMismatch
  | shapeMismatch
  | rangeError
  | illegalOp
deriving DecidableEq, Repr

/-- The code 0 of an operation that passed its checks (60_exceptions.md R170). -/
def errOk : ErrCode := 0#3

/-- The code an error writes to `RES_ERR` (60_exceptions.md R170). -/
def errorCode : OpError → ErrCode
  | .typeMismatch => 1#3
  | .shapeMismatch => 2#3
  | .rangeError => 3#3
  | .illegalOp => 4#3

/-- The lane a comparison generates: `ones_w` when the predicate holds, `zeros_w` otherwise (44_compare.md R141). -/
def maskLane (w : Nat) (p : Bool) : BitVec w := if p then BitVec.allOnes w else 0#w

end Sys2Proof.Machine
end

