-- ==== Sys2Proof/Machine/Integer.lean ====
section
/-! DEFINITION. Integer lanes: two's complement, computed exactly on integers and then reduced by `wrap_w`
(00_scope.md R7, 42_arithmetic.md R101). Ordering and division are signed. -/
namespace Sys2Proof.Machine

/-- `sval_w(x)`: the two's-complement value (00_scope.md R7). -/
def sval {w : Nat} (x : BitVec w) : Int := x.toInt

/-- `wrap_w(n)`: the `w`-bit vector with unsigned value `n mod 2^w` (00_scope.md R7). -/
def wrap (w : Nat) (n : Int) : BitVec w := BitVec.ofInt w n

/-- ADD of an integer lane (42_arithmetic.md R102). -/
def intAdd {w : Nat} (a b : BitVec w) : BitVec w := wrap w (sval a + sval b)

/-- SUB of an integer lane (42_arithmetic.md R103). -/
def intSub {w : Nat} (a b : BitVec w) : BitVec w := wrap w (sval a - sval b)

/-- MUL of an integer lane: the low bits of the exact product (42_arithmetic.md R104). -/
def intMul {w : Nat} (a b : BitVec w) : BitVec w := wrap w (sval a * sval b)

/-- DIV of an integer lane: the quotient rounded toward zero, and 0 for a zero divisor (42_arithmetic.md R105). -/
def intDiv {w : Nat} (a b : BitVec w) : BitVec w :=
  if sval b = 0 then 0#w else wrap w ((sval a).tdiv (sval b))

/-- ABS of an integer lane; the least value wraps to itself (42_arithmetic.md R106). -/
def intAbs {w : Nat} (a : BitVec w) : BitVec w := wrap w ((sval a).natAbs : Int)

/-- NEG of an integer lane; the least value wraps to itself (42_arithmetic.md R107). -/
def intNeg {w : Nat} (a : BitVec w) : BitVec w := wrap w (-sval a)

/-- MIN of integer lanes, signed (42_arithmetic.md R108). -/
def intMin {w : Nat} (a b : BitVec w) : BitVec w := if sval a ≤ sval b then a else b

/-- MAX of integer lanes, signed (42_arithmetic.md R109). -/
def intMax {w : Nat} (a b : BitVec w) : BitVec w := if sval b ≤ sval a then a else b

/-- CLAMP of an integer lane: `max(min(t, upper), lower)` in that order (42_arithmetic.md R112). -/
def intClamp {w : Nat} (t lower upper : BitVec w) : BitVec w := intMax (intMin t upper) lower

/-- `a < b` of integer lanes, signed (44_compare.md R140). -/
def intLt {w : Nat} (a b : BitVec w) : Bool := decide (sval a < sval b)

/-- `a <= b` of integer lanes, signed (44_compare.md R140). -/
def intLe {w : Nat} (a b : BitVec w) : Bool := decide (sval a ≤ sval b)

/-- `a == b` of integer lanes (44_compare.md R140). -/
def intEq {w : Nat} (a b : BitVec w) : Bool := decide (sval a = sval b)

/-- `not (a == b)` of integer lanes (44_compare.md R145). -/
def intNe {w : Nat} (a b : BitVec w) : Bool := !intEq a b

/-- `a > b` of integer lanes (44_compare.md R146). -/
def intGt {w : Nat} (a b : BitVec w) : Bool := intLt b a

/-- `a >= b` of integer lanes (44_compare.md R147). -/
def intGe {w : Nat} (a b : BitVec w) : Bool := intLe b a

end Sys2Proof.Machine
end

