-- ==== Sys2Proof/Machine/Float.lean ====
section
/-! DEFINITION. Float lanes: IEEE 754 binary32 and binary64 (00_scope.md R9), rounded to nearest with ties to even and
gradual underflow (R10), every computed NaN being the canonical one (R11, 42_arithmetic.md R100).

Every finite value of a format is an integer multiple of its smallest subnormal, `2^-149` or `2^-1074`, the *unit* of
the format. A finite value is held as a sign and that integer, so that sums, products, quotients and square roots are
exact fractions of naturals until they are rounded once. -/
namespace Sys2Proof.Machine

/-- A binary interchange format: the widths of its exponent and fraction fields (00_scope.md R9). -/
structure FloatFormat where
  expBits : Nat
  fracBits : Nat
deriving DecidableEq, Repr

/-- binary32 (00_scope.md R9). -/
def binary32 : FloatFormat := ⟨8, 23⟩

/-- binary64 (00_scope.md R9). -/
def binary64 : FloatFormat := ⟨11, 52⟩

/-- The exponent, negated, of the unit `2^-k`, the smallest positive subnormal: 149 and 1074 (00_scope.md R9). -/
def unitExp (fmt : FloatFormat) : Nat := 2 ^ (fmt.expBits - 1) - 2 + fmt.fracBits

/-- The pattern of `+inf`: exponent all ones, fraction zero (00_scope.md R9). -/
def infPattern (fmt : FloatFormat) : Nat := (2 ^ fmt.expBits - 1) * 2 ^ fmt.fracBits

/-- `CNAN_w`: positive, quiet, payload zero (00_scope.md R11). -/
def cnan (fmt : FloatFormat) (w : Nat) : BitVec w := BitVec.ofNat w (infPattern fmt + 2 ^ (fmt.fracBits - 1))

/-- What a pattern stands for (00_scope.md R9). -/
inductive FloatVal where
  /-- any NaN, quiet or signalling -/
  | nan
  /-- an infinity, with its sign -/
  | inf (neg : Bool)
  /-- a finite value, `mag` units with a sign; a zero has `mag = 0` and keeps its sign -/
  | fin (neg : Bool) (mag : Nat)
deriving DecidableEq, Repr

/-- The magnitude, in units, of a finite pattern with the given exponent and fraction fields: a subnormal or zero
when the exponent field is 0, else a normal value with its leading one (00_scope.md R9). -/
def finMag (fmt : FloatFormat) (expField frac : Nat) : Nat :=
  if expField = 0 then frac else (2 ^ fmt.fracBits + frac) * 2 ^ (expField - 1)

/-- `fval_w(x)` (00_scope.md R9). -/
def fval (fmt : FloatFormat) {w : Nat} (x : BitVec w) : FloatVal :=
  let frac := x.toNat % 2 ^ fmt.fracBits
  let expField := x.toNat / 2 ^ fmt.fracBits % 2 ^ fmt.expBits
  if expField = 2 ^ fmt.expBits - 1 then
    if frac = 0 then .inf x.msb else .nan
  else .fin x.msb (finMag fmt expField frac)

/-- `isNaN_w(x)` (00_scope.md R9). -/
def isNaN (fmt : FloatFormat) {w : Nat} (x : BitVec w) : Bool := fval fmt x == .nan

/-- The pattern with a sign and a magnitude pattern. -/
def withSign (fmt : FloatFormat) (w : Nat) (neg : Bool) (pattern : Nat) : BitVec w :=
  BitVec.ofNat w ((if neg then 2 ^ (fmt.expBits + fmt.fracBits) else 0) + pattern)

/-- The infinity of a sign (00_scope.md R9). -/
def infinity (fmt : FloatFormat) (w : Nat) (neg : Bool) : BitVec w := withSign fmt w neg (infPattern fmt)

/-- The zero of a sign (00_scope.md R9). -/
def signedZero (fmt : FloatFormat) (w : Nat) (neg : Bool) : BitVec w := withSign fmt w neg 0

/-- The natural nearest to `n / d`, a tie going to the even one (00_scope.md R10). -/
def nearestEven (n d : Nat) : Nat :=
  if d < 2 * (n % d) ∨ (2 * (n % d) = d ∧ n / d % 2 = 1) then n / d + 1 else n / d

/-- The pattern of the magnitude that is `k` times `2^q` units, where `k` is below `2^fracBits` only if `q = 0`; a
magnitude beyond the largest finite one is the infinity (00_scope.md R9, R10). -/
def scaledPattern (fmt : FloatFormat) (q k : Nat) : Nat := min (infPattern fmt) (q * 2 ^ fmt.fracBits + k)

/-- `round_w` of the exact magnitude `n / d` units: the quantum is `2^q` units, the smallest one in the subnormal
range, and the multiple of it nearest to the exact value is taken, ties to even; overflow is the infinity
(00_scope.md R10). The result is a magnitude pattern. -/
def roundPattern (fmt : FloatFormat) (n d : Nat) : Nat :=
  let q := Nat.log2 (n / d) - fmt.fracBits
  scaledPattern fmt q (nearestEven n (d * 2 ^ q))

/-- `round_w` of `± n / d` units (00_scope.md R10); an exact zero keeps the given sign. -/
def roundUnits (fmt : FloatFormat) (w : Nat) (neg : Bool) (n d : Nat) : BitVec w :=
  withSign fmt w neg (roundPattern fmt n d)

/-- The search of `isqrt`: from `r`, add each of the bits `b-1, ..., 0` that keeps the square at or below `n`. -/
def isqrtBits (n : Nat) : Nat → Nat → Nat
  | 0, r => r
  | b + 1, r => if (r + 2 ^ b) * (r + 2 ^ b) ≤ n then isqrtBits n b (r + 2 ^ b) else isqrtBits n b r

/-- The integer square root: the largest `r` with `r * r ≤ n`. -/
def isqrt (n : Nat) : Nat := isqrtBits n (Nat.log2 n / 2 + 1) 0

/-- The natural nearest to the real square root of `n / d`, a tie going to the even one: the comparison with the
midpoint `k + 1/2` is made on squares (00_scope.md R10). -/
def nearestEvenSqrt (n d : Nat) : Nat :=
  let k := isqrt (n / d)
  let mid := (2 * k + 1) * (2 * k + 1) * d
  if mid < 4 * n ∨ (mid = 4 * n ∧ k % 2 = 1) then k + 1 else k

/-- `round_w` of the real magnitude `sqrt(n / d)` units, as a magnitude pattern (00_scope.md R10). -/
def roundSqrtPattern (fmt : FloatFormat) (n d : Nat) : Nat :=
  let q := Nat.log2 (isqrt (n / d)) - fmt.fracBits
  scaledPattern fmt q (nearestEvenSqrt n (d * 2 ^ (2 * q)))

/-- The signed integer, in units, of a finite value. -/
def signedMag (neg : Bool) (mag : Nat) : Int := if neg then -(mag : Int) else mag

/-- The value with the other sign. -/
def FloatVal.negated : FloatVal → FloatVal
  | .nan => .nan
  | .inf s => .inf (!s)
  | .fin s m => .fin (!s) m

/-- IEEE 754 addition of two decoded values (42_arithmetic.md R100): an invalid sum is the canonical NaN, an exact zero
sum of opposite signs is `+0`, and a sum of two zeros of one sign keeps it. -/
def addVals (fmt : FloatFormat) (w : Nat) (x y : FloatVal) : BitVec w :=
  match x, y with
  | .nan, _ => cnan fmt w
  | _, .nan => cnan fmt w
  | .inf s, .inf t => if s = t then infinity fmt w s else cnan fmt w
  | .inf s, .fin _ _ => infinity fmt w s
  | .fin _ _, .inf t => infinity fmt w t
  | .fin s m, .fin t n =>
    let sum := signedMag s m + signedMag t n
    if sum = 0 then signedZero fmt w (s && t) else roundUnits fmt w (decide (sum < 0)) sum.natAbs 1

/-- `fop_w(+)` (42_arithmetic.md R100, R102). -/
def floatAdd (fmt : FloatFormat) {w : Nat} (a b : BitVec w) : BitVec w := addVals fmt w (fval fmt a) (fval fmt b)

/-- `fop_w(-)`: A minus B, the sum of A and the value of B with the other sign (42_arithmetic.md R100, R103). -/
def floatSub (fmt : FloatFormat) {w : Nat} (a b : BitVec w) : BitVec w :=
  addVals fmt w (fval fmt a) (fval fmt b).negated

/-- `fop_w(×)`: the sign is the XOR of the signs, `0 × inf` is invalid (42_arithmetic.md R100, R104). A product of
`m` and `n` units is `m * n / 2^unitExp` units. -/
def floatMul (fmt : FloatFormat) {w : Nat} (a b : BitVec w) : BitVec w :=
  match fval fmt a, fval fmt b with
  | .nan, _ => cnan fmt w
  | _, .nan => cnan fmt w
  | .inf s, .inf t => infinity fmt w (s ^^ t)
  | .inf s, .fin t n => if n = 0 then cnan fmt w else infinity fmt w (s ^^ t)
  | .fin s m, .inf t => if m = 0 then cnan fmt w else infinity fmt w (s ^^ t)
  | .fin s m, .fin t n => roundUnits fmt w (s ^^ t) (m * n) (2 ^ unitExp fmt)

/-- `fop_w(÷)`: the sign is the XOR of the signs, `0 ÷ 0` and `inf ÷ inf` are invalid, a non-zero value over zero is an
infinity (42_arithmetic.md R100, R105). A quotient of `m` by `n` units is `m * 2^unitExp / n` units. -/
def floatDiv (fmt : FloatFormat) {w : Nat} (a b : BitVec w) : BitVec w :=
  match fval fmt a, fval fmt b with
  | .nan, _ => cnan fmt w
  | _, .nan => cnan fmt w
  | .inf _, .inf _ => cnan fmt w
  | .inf s, .fin t _ => infinity fmt w (s ^^ t)
  | .fin s _, .inf t => signedZero fmt w (s ^^ t)
  | .fin s m, .fin t n =>
    if n = 0 then (if m = 0 then cnan fmt w else infinity fmt w (s ^^ t))
    else roundUnits fmt w (s ^^ t) (m * 2 ^ unitExp fmt) n

/-- `fop_w(sqrt)`: correctly rounded, a zero keeps its sign, a value below zero is invalid (42_arithmetic.md R100,
R113). The square root of `m` units is `sqrt(m * 2^unitExp)` units. -/
def floatSqrt (fmt : FloatFormat) {w : Nat} (a : BitVec w) : BitVec w :=
  match fval fmt a with
  | .nan => cnan fmt w
  | .inf s => if s then cnan fmt w else infinity fmt w false
  | .fin s m =>
    if m = 0 then signedZero fmt w s
    else if s then cnan fmt w
    else withSign fmt w false (roundSqrtPattern fmt (m * 2 ^ unitExp fmt) 1)

/-- ABS of a float lane: `{0, a[w-2:0]}`, a NaN kept (42_arithmetic.md R106). -/
def floatAbs {w : Nat} (a : BitVec w) : BitVec w := a &&& ~~~(BitVec.twoPow w (w - 1))

/-- NEG of a float lane: `{~a[w-1], a[w-2:0]}`, a NaN kept (42_arithmetic.md R107). -/
def floatNeg {w : Nat} (a : BitVec w) : BitVec w := a ^^^ BitVec.twoPow w (w - 1)

/-- The real-number order `x <= y` of two decoded values; false if either is NaN, and the two zeros are equal
(44_compare.md R140). -/
def leVals : FloatVal → FloatVal → Bool
  | .nan, _ => false
  | _, .nan => false
  | .inf s, .inf t => s || !t
  | .inf s, .fin _ _ => s
  | .fin _ _, .inf t => !t
  | .fin s m, .fin t n => decide (signedMag s m ≤ signedMag t n)

/-- `a <= b` of float lanes (44_compare.md R140, R143). -/
def floatLe (fmt : FloatFormat) {w : Nat} (a b : BitVec w) : Bool := leVals (fval fmt a) (fval fmt b)

/-- `a < b` of float lanes: ordered, and not `b <= a` (44_compare.md R140, R142). -/
def floatLt (fmt : FloatFormat) {w : Nat} (a b : BitVec w) : Bool :=
  leVals (fval fmt a) (fval fmt b) && !leVals (fval fmt b) (fval fmt a)

/-- `a == b` of float lanes: each is at or below the other (44_compare.md R140, R144). -/
def floatEq (fmt : FloatFormat) {w : Nat} (a b : BitVec w) : Bool :=
  leVals (fval fmt a) (fval fmt b) && leVals (fval fmt b) (fval fmt a)

/-- `not (a == b)`, so true of an unordered pair (44_compare.md R140, R145). -/
def floatNe (fmt : FloatFormat) {w : Nat} (a b : BitVec w) : Bool := !floatEq fmt a b

/-- `a > b` of float lanes (44_compare.md R146). -/
def floatGt (fmt : FloatFormat) {w : Nat} (a b : BitVec w) : Bool := floatLt fmt b a

/-- `a >= b` of float lanes (44_compare.md R147). -/
def floatGe (fmt : FloatFormat) {w : Nat} (a b : BitVec w) : Bool := floatLe fmt b a

/-- The pattern is a zero of either sign. -/
def isZeroVal : FloatVal → Bool
  | .nan => false
  | .inf _ => false
  | .fin _ m => m == 0

/-- `fmin_w`: NaN if either is NaN, `-0` below `+0` (42_arithmetic.md R108). -/
def floatMin (fmt : FloatFormat) {w : Nat} (a b : BitVec w) : BitVec w :=
  if isNaN fmt a || isNaN fmt b then cnan fmt w
  else if isZeroVal (fval fmt a) && isZeroVal (fval fmt b) then (if a.msb then a else b)
  else if floatLe fmt a b then a else b

/-- `fmax_w`: NaN if either is NaN, `+0` above `-0` (42_arithmetic.md R109). -/
def floatMax (fmt : FloatFormat) {w : Nat} (a b : BitVec w) : BitVec w :=
  if isNaN fmt a || isNaN fmt b then cnan fmt w
  else if isZeroVal (fval fmt a) && isZeroVal (fval fmt b) then (if a.msb then b else a)
  else if floatLe fmt b a then a else b

/-- MINNUM of a lane: the other operand where exactly one is NaN, quiet or signalling (42_arithmetic.md R110). -/
def floatMinNum (fmt : FloatFormat) {w : Nat} (a b : BitVec w) : BitVec w :=
  if isNaN fmt a && isNaN fmt b then cnan fmt w
  else if isNaN fmt a then b
  else if isNaN fmt b then a
  else floatMin fmt a b

/-- MAXNUM of a lane (42_arithmetic.md R111). -/
def floatMaxNum (fmt : FloatFormat) {w : Nat} (a b : BitVec w) : BitVec w :=
  if isNaN fmt a && isNaN fmt b then cnan fmt w
  else if isNaN fmt a then b
  else if isNaN fmt b then a
  else floatMax fmt a b

/-- CLAMP of a float lane: `max(min(t, upper), lower)` in that order (42_arithmetic.md R112). -/
def floatClamp (fmt : FloatFormat) {w : Nat} (t lower upper : BitVec w) : BitVec w :=
  floatMax fmt (floatMin fmt t upper) lower

/-- The denominator of `RCP_REL_ERR = 2^-12` (00_scope.md R5). -/
def relErrScale : Nat := 2 ^ 12

/-- Numerator and denominator, in units, of `q = 1 / (m units)`. -/
def rcpNum (fmt : FloatFormat) : Nat := 2 ^ (2 * unitExp fmt)

/-- `Adm(q)` of 42_arithmetic.md R114 for a finite non-zero operand `± m` units: the result is not NaN, has the sign of
`q`, and is within the relative error, or at most `MINNORM_w` where `q` is below it, or the infinity where `round_w(q)`
is infinite. `|n - q| <= 2^-12 q` is written on naturals, with `q = rcpNum / m` units. -/
def rcpAdmissible (fmt : FloatFormat) (neg : Bool) (m : Nat) : FloatVal → Bool
  | .nan => false
  | .inf t => t == neg && roundPattern fmt (rcpNum fmt) m == infPattern fmt
  | .fin t n => t == neg &&
    ((decide ((relErrScale - 1) * rcpNum fmt ≤ relErrScale * (n * m))
        && decide (relErrScale * (n * m) ≤ (relErrScale + 1) * rcpNum fmt))
      || (decide (rcpNum fmt < 2 ^ fmt.fracBits * m) && decide (n ≤ 2 ^ fmt.fracBits)))

/-- RCPA of a lane (42_arithmetic.md R114). The special values are fixed. Elsewhere the result is the OPEN build
parameter `rcp`, kept to the functions that satisfy the rule: where `rcp` does not answer within `Adm(q)` the lane is
`round_w(q)`, which the rule says is within it. Every conforming function is a value of `rcp` that is kept whole, so the
results a build may have are exactly those of the rule (log 4). -/
def floatRcp (fmt : FloatFormat) {w : Nat} (rcp : BitVec w → BitVec w) (a : BitVec w) : BitVec w :=
  match fval fmt a with
  | .nan => cnan fmt w
  | .inf s => signedZero fmt w s
  | .fin s m =>
    if m = 0 then infinity fmt w s
    else if rcpAdmissible fmt s m (fval fmt (rcp a)) then rcp a
    else roundUnits fmt w s (rcpNum fmt) m

/-- Numerator, in units squared, of `q * q` where `q = 1 / sqrt(m units)`; the denominator is `m`. -/
def rsqrtNum (fmt : FloatFormat) : Nat := 2 ^ (3 * unitExp fmt)

/-- The constraint of 42_arithmetic.md R115 for a finite positive operand of `m` units: the result is positive, finite
and within the relative error; the comparison with `q = sqrt(rsqrtNum / m)` units is made on squares. -/
def rsqrtAdmissible (fmt : FloatFormat) (m : Nat) : FloatVal → Bool
  | .nan => false
  | .inf _ => false
  | .fin t n => !t && decide (0 < n)
    && decide ((relErrScale - 1) ^ 2 * rsqrtNum fmt ≤ relErrScale ^ 2 * (n ^ 2 * m))
    && decide (relErrScale ^ 2 * (n ^ 2 * m) ≤ (relErrScale + 1) ^ 2 * rsqrtNum fmt)

/-- RSQA of a lane (42_arithmetic.md R115), with the OPEN build parameter `rsqrt` kept to the functions that satisfy
the rule as in `floatRcp` (log 4). -/
def floatRsqrt (fmt : FloatFormat) {w : Nat} (rsqrt : BitVec w → BitVec w) (a : BitVec w) : BitVec w :=
  match fval fmt a with
  | .nan => cnan fmt w
  | .inf s => if s then cnan fmt w else signedZero fmt w false
  | .fin s m =>
    if m = 0 then infinity fmt w s
    else if s then cnan fmt w
    else if rsqrtAdmissible fmt m (fval fmt (rsqrt a)) then rsqrt a
    else withSign fmt w false (roundSqrtPattern fmt (rsqrtNum fmt) m)

/-! Numeric conversion of a lane (41_conversion.md). -/

/-- Integer to a wider integer: sign extension (41_conversion.md R91). -/
def convSignExtend (wd : Nat) {ws : Nat} (x : BitVec ws) : BitVec wd := x.signExtend wd

/-- Integer to a narrower integer: the low bits (41_conversion.md R91). -/
def convTruncate (wd : Nat) {ws : Nat} (x : BitVec ws) : BitVec wd := x.extractLsb' 0 wd

/-- Integer to float: `round_wd(sval_ws(x))`; a value `v` is `v * 2^unitExp` units, and zero is `+0`
(41_conversion.md R92). -/
def convIntToFloat (fmt : FloatFormat) (wd : Nat) {ws : Nat} (x : BitVec ws) : BitVec wd :=
  roundUnits fmt wd (decide (sval x < 0)) ((sval x).natAbs * 2 ^ unitExp fmt) 1

/-- Saturation to the range `[MIN_wd, MAX_wd]` of `wd` bits (41_conversion.md R93). -/
def saturate (wd : Nat) (n : Int) : Int :=
  if (2 ^ (wd - 1) - 1 : Int) < n then 2 ^ (wd - 1) - 1
  else if n < -(2 ^ (wd - 1) : Int) then -(2 ^ (wd - 1)) else n

/-- Float to integer: truncated toward zero and saturated, NaN gives 0 (41_conversion.md R93). -/
def convFloatToInt (fmt : FloatFormat) (wd : Nat) {ws : Nat} (x : BitVec ws) : BitVec wd :=
  match fval fmt x with
  | .nan => 0#wd
  | .inf s => wrap wd (if s then -(2 ^ (wd - 1)) else 2 ^ (wd - 1) - 1)
  | .fin s m => wrap wd (saturate wd (signedMag s (m / 2 ^ unitExp fmt)))

/-- Float to the other float format: NaN gives the canonical NaN, infinities and zeros keep their sign, and every other
value is rounded to the destination, which is exact from binary32 to binary64 (41_conversion.md R94). `m` source units
are `m * 2^unitExp(dst) / 2^unitExp(src)` destination units. -/
def convFloatToFloat (src dst : FloatFormat) (wd : Nat) {ws : Nat} (x : BitVec ws) : BitVec wd :=
  match fval src x with
  | .nan => cnan dst wd
  | .inf s => infinity dst wd s
  | .fin s m => roundUnits dst wd s (m * 2 ^ unitExp dst) (2 ^ unitExp src)

end Sys2Proof.Machine
end

