-- ==== Sys2Proof/Config.lean ====
section
/-! DEFINITION. The OPEN build parameters of 00_scope.md R5 and the unspecified contents of the result register before
the first reset (10_state.md R30). Each is an opaque constant without a body: nothing in Lean can evaluate it, so a
claim that is proved holds for every value of it. Every other parameter of R5 is fixed by the spec and stands where
it is used. -/
namespace Sys2Proof

/-- `RCP_32`, OPEN (00_scope.md R5, 42_arithmetic.md R114): a function of the lane pattern alone. The constraints of
R114 are put on it where it is used (`Machine.floatRcp`); notes/assumptions/4.md. -/
opaque Config.rcp32 : BitVec 32 → BitVec 32

/-- `RCP_64`, OPEN (00_scope.md R5, 42_arithmetic.md R114); notes/assumptions/4.md. -/
opaque Config.rcp64 : BitVec 64 → BitVec 64

/-- `RSQRT_32`, OPEN (00_scope.md R5, 42_arithmetic.md R115); notes/assumptions/4.md. -/
opaque Config.rsqrt32 : BitVec 32 → BitVec 32

/-- `RSQRT_64`, OPEN (00_scope.md R5, 42_arithmetic.md R115); notes/assumptions/4.md. -/
opaque Config.rsqrt64 : BitVec 64 → BitVec 64

/-- `N_UNITS`, OPEN, without effect on any rule (00_scope.md R5, 60_exceptions.md R182); notes/assumptions/6.md. -/
opaque Config.nUnits : Nat

/-- `RES_VALID` before the first reset: unspecified (10_state.md R30); notes/assumptions/5.md. -/
opaque Config.powerUpResValid : Bool

/-- `RES_TAG` before the first reset: unspecified (10_state.md R30); notes/assumptions/5.md. -/
opaque Config.powerUpResTag : Tag

/-- `RES_DATA` before the first reset: unspecified (10_state.md R30); notes/assumptions/5.md. -/
opaque Config.powerUpResData : Data

/-- `RES_ERR` before the first reset: unspecified (10_state.md R30); notes/assumptions/5.md. -/
opaque Config.powerUpResErr : ErrCode

end Sys2Proof
end

