-- ==== Sys2Proof/Machine/State.lean ====
section
/-! DEFINITION. The state of the block: its result register (10_state.md R23), the values on its input ports in the
current step (R22), and what the host drives in the following steps (70_reset_and_hazards.md R197). All of it is plain
data. -/
namespace Sys2Proof.Machine

/-- A tag and a data word carried together: what an operand port carries, and what the result register holds of a
result (10_state.md R24). A port may carry any tag, valid or not. -/
structure Value where
  /-- the 4-bit shape tag -/
  tag : Tag
  /-- the 128-bit data word -/
  data : Data
deriving DecidableEq, Repr

/-- The input ports, sampled in the step in which they are presented (10_state.md R22). -/
structure Ports where
  /-- `RESET` -/
  reset : Bool
  /-- `OP_VALID` -/
  opValid : Bool
  /-- `OP` -/
  op : OpWord
  /-- operand port A -/
  a : Value
  /-- operand port B -/
  b : Value
  /-- operand port C -/
  c : Value
  /-- `IDX` -/
  idx : Data
deriving DecidableEq, Repr

/-- The machine. The block's own state is the four `res` fields (10_state.md R20, R23); `ports` and `pending` are the
host's side of the step (notes/assumptions/1.md). -/
structure State where
  /-- `RES_VALID` -/
  resValid : Bool
  /-- `RES_TAG` -/
  resTag : Tag
  /-- `RES_DATA` -/
  resData : Data
  /-- `RES_ERR` -/
  resErr : ErrCode
  /-- the port values the host drives in the current step -/
  ports : Ports
  /-- DESIGN CHOICE (log 1): the port values the host drives in the following steps, the next step's first -/
  pending : List Ports
deriving DecidableEq, Repr

/-- The reasons for which a step could stop the machine. There is none: errors are results and do not trap
(60_exceptions.md R175), and `Exec` is a total function (40_issue_and_check.md R80). -/
inductive Fault where
deriving DecidableEq, Repr

/-- Why an instruction has no meaning. -/
inductive Refusal where
  /-- Raised by an arm of `exec` whose instruction has no meaning yet; safe. No arm raises it: every row of the opcode
  table has its meaning. -/
  | notModelled (mnemonic : String)
deriving DecidableEq, Repr

/-- Ports on which nothing is driven: RESET and OP_VALID low and every other port at zero, tag NONE.
DESIGN CHOICE, log 2: the spec gives inputs no value of their own. -/
def Ports.quiet : Ports where
  reset := false
  opValid := false
  op := 0#32
  a := ⟨0x0#4, 0#128⟩
  b := ⟨0x0#4, 0#128⟩
  c := ⟨0x0#4, 0#128⟩
  idx := 0#128

/-- The machine right after a step with `RESET = 1`: the reset values of 10_state.md R23, written by
70_reset_and_hazards.md R190. The ports are quiet and the host has nothing more to present (logs 2 and 3). -/
def State.reset : State where
  resValid := false
  resTag := 0x0#4
  resData := 0#128
  resErr := 0#3
  ports := Ports.quiet
  pending := []

/-- The machine before its first reset: every field of the result register is a free value (10_state.md R30,
60_exceptions.md R184, log 5). A host program from power-up drives `p` in the first step and `ps` in the following ones
(70_reset_and_hazards.md R197). -/
def State.powerUp (p : Ports) (ps : List Ports) : State where
  resValid := Config.powerUpResValid
  resTag := Config.powerUpResTag
  resData := Config.powerUpResData
  resErr := Config.powerUpResErr
  ports := p
  pending := ps

end Sys2Proof.Machine
end

