-- ==== Sys2Proof/Machine/Operands.lean ====
section
/-! DEFINITION. Reading the operand ports: which tag a read port must carry, and the checks every operation makes of
the ports it reads (40_issue_and_check.md R82, R83, R84) and of its indices (45_rearrange.md R150). A port an operation
does not read is not looked at (30_encoding.md R67). -/
namespace Sys2Proof.Machine

/-- A port in the set `P` an operation reads, with the tag it must carry; `none` for the two ports without a required
tag, CHECK's and BITSELECT's port A (30_encoding.md R65, 40_issue_and_check.md R84). -/
structure ReadPort where
  value : Value
  required : Option Tag
deriving DecidableEq, Repr

/-- A read port that must carry the tag of a shape (30_encoding.md R65). -/
def needShape (v : Value) (sh : Shape) : ReadPort := ⟨v, some (Shape.tag sh)⟩

/-- SELECT's port A, which must carry `maskOf(SHAPE)` (30_encoding.md R65). -/
def needMaskOf (v : Value) (sh : Shape) : ReadPort := ⟨v, some (maskOf (Shape.tag sh))⟩

/-- A read port without a required tag (40_issue_and_check.md R84). -/
def needAny (v : Value) : ReadPort := ⟨v, none⟩

/-- `wellFormed(X)`: every lane is `ones_w` or `zeros_w`, in the geometry of the operand's own tag
(40_issue_and_check.md R83). -/
def wellFormedMask (v : Value) : Bool :=
  (List.range (tagLanes v.tag)).all fun i =>
    lane (tagWidth v.tag) v.data i == BitVec.allOnes (tagWidth v.tag)
      || lane (tagWidth v.tag) v.data i == 0#(tagWidth v.tag)

/-- An operand that is a value of some shape: its tag is valid, and a mask is well-formed
(40_issue_and_check.md R82, R83). -/
def isValue (v : Value) : Bool := validTag v.tag && (!isMaskTag v.tag || wellFormedMask v)

/-- `typeFault`: some read port carries no value of any shape (40_issue_and_check.md R82, R83). -/
def typeFault (ps : List ReadPort) : Bool := ps.any fun p => !isValue p.value

/-- The port carries the tag it must carry, if it must carry one (40_issue_and_check.md R84). -/
def tagAgrees (p : ReadPort) : Bool :=
  match p.required with
  | none => true
  | some t => p.value.tag == t

/-- `shapeFault`: some read port carries another tag than the one it must carry. It is looked at only where
`typeFault` is false, so that every tag is valid there (40_issue_and_check.md R84, R80). -/
def shapeFault (ps : List ReadPort) : Bool := ps.any fun p => !tagAgrees p

/-- `idx_k = uval(IDX[8*k + 7 : 8*k])` (30_encoding.md R68). -/
def laneIndex (idx : Data) (k : Nat) : Nat := (dataByte idx k).toNat

/-- `rangeFault`: some index of the `n` lanes is at or above `limit`, which is `N` for SWIZZLE and `2N` for SHUFFLE;
index bytes `N` to 15 are not looked at (45_rearrange.md R150). -/
def rangeFault (n limit : Nat) (idx : Data) : Bool :=
  (List.range n).any fun k => decide (limit ≤ laneIndex idx k)

end Sys2Proof.Machine
end

