-- ==== Sys2Proof/Machine/Ops.lean ====
section
/-! DEFINITION. The operations every step is made of: raising an error, delivering a result, issuing under the checks,
resetting, idling, and the host's presenting its next step; and the operand forms the families share. -/
namespace Sys2Proof.Machine

/-- Raising an error: `RES_TAG <- NONE`, `RES_DATA <- zeros_128`, `RES_ERR <-` its code, `RES_VALID <- 1`
(60_exceptions.md R173). Errors do not trap: no state is saved and control does not move (R175), so there is nothing
to return from (R176). -/
def State.raiseError (s : State) (e : OpError) : State :=
  { s with resValid := true, resTag := tagNone, resData := 0#128, resErr := errorCode e }

/-- Delivering a result: `RES_TAG <- t`, `RES_DATA <- d`, `RES_ERR <- 0`, `RES_VALID <- 1`
(40_issue_and_check.md R80). -/
def State.deliver (s : State) (v : Value) : State :=
  { s with resValid := true, resTag := v.tag, resData := v.data, resErr := errOk }

/-- `Exec` of a legal word: the checks in the order of 40_issue_and_check.md R80, which is the priority of
60_exceptions.md R172, then the result. `ps` are the ports the operation reads, `outOfRange` its index check. -/
def State.issue (s : State) (ps : List ReadPort) (outOfRange : Bool) (v : Value) : State :=
  if typeFault ps then s.raiseError .typeMismatch
  else if shapeFault ps then s.raiseError .shapeMismatch
  else if outOfRange then s.raiseError .rangeError
  else s.deliver v

/-- An idle step: `RES_VALID <- 0`, the other fields unchanged (40_issue_and_check.md R81). -/
def State.idleStep (s : State) : State := { s with resValid := false }

/-- A step with `RESET = 1` writes the reset values (70_reset_and_hazards.md R190). -/
def State.resetStep (s : State) : State :=
  { s with resValid := false, resTag := tagNone, resData := 0#128, resErr := errOk }

/-- The host's side of the end of a step: the ports take the values of its next step (70_reset_and_hazards.md R197,
log 1). A host with nothing more to present leaves the ports as they are; DESIGN CHOICE, log 3: presenting the same
inputs again gives the same result (20_memory.md R43), so the end state of R197 stays as it is. No field of the result
register is touched. -/
def State.present (s : State) : State :=
  match s.pending with
  | [] => s
  | p :: ps => { s with ports := p, pending := ps }

/-- The operation word of an issue, decoded (30_encoding.md R64). -/
def State.fetch (s : State) : Except DecodeError Instr := decodeWord s.ports.op

/-! The operand forms. Each names the ports of 30_encoding.md R65 and computes lane by lane. -/

/-- One operand of the shape; lane `k` of the result from lane `k` of A. -/
def State.unary (s : State) (sh : Shape) (f : BitVec (shapeWidth sh) → BitVec (shapeWidth sh)) : State :=
  s.issue [needShape s.ports.a sh] false
    ⟨Shape.tag sh, vec (shapeWidth sh) (fun k => f (lane (shapeWidth sh) s.ports.a.data k)) (shapeLanes sh)⟩

/-- Two operands of the shape; lane `k` of the result from lane `k` of A and of B. -/
def State.binary (s : State) (sh : Shape)
    (f : BitVec (shapeWidth sh) → BitVec (shapeWidth sh) → BitVec (shapeWidth sh)) : State :=
  s.issue [needShape s.ports.a sh, needShape s.ports.b sh] false
    ⟨Shape.tag sh, vec (shapeWidth sh) (fun k => f (lane (shapeWidth sh) s.ports.a.data k)
      (lane (shapeWidth sh) s.ports.b.data k)) (shapeLanes sh)⟩

/-- Three operands of the shape; lane `k` of the result from lane `k` of A, of B and of C. -/
def State.ternary (s : State) (sh : Shape)
    (f : BitVec (shapeWidth sh) → BitVec (shapeWidth sh) → BitVec (shapeWidth sh) → BitVec (shapeWidth sh)) : State :=
  s.issue [needShape s.ports.a sh, needShape s.ports.b sh, needShape s.ports.c sh] false
    ⟨Shape.tag sh, vec (shapeWidth sh) (fun k => f (lane (shapeWidth sh) s.ports.a.data k)
      (lane (shapeWidth sh) s.ports.b.data k) (lane (shapeWidth sh) s.ports.c.data k)) (shapeLanes sh)⟩

/-- One operand of the shape, taken as a whole 128-bit word (43_bitwise.md). -/
def State.unaryWord (s : State) (sh : Shape) (f : Data → Data) : State :=
  s.issue [needShape s.ports.a sh] false ⟨Shape.tag sh, f s.ports.a.data⟩

/-- Two operands of the shape, taken as whole 128-bit words (43_bitwise.md). -/
def State.binaryWord (s : State) (sh : Shape) (f : Data → Data → Data) : State :=
  s.issue [needShape s.ports.a sh, needShape s.ports.b sh] false ⟨Shape.tag sh, f s.ports.a.data s.ports.b.data⟩

/-- Two operands of the shape; lane `k` of the result, of the mask shape of the same geometry, tells whether the
predicate holds of lane `k` of A and lane `k` of B (44_compare.md R141). -/
def State.compare (s : State) (sh : Shape)
    (p : BitVec (shapeWidth sh) → BitVec (shapeWidth sh) → Bool) : State :=
  s.issue [needShape s.ports.a sh, needShape s.ports.b sh] false
    ⟨maskOf (Shape.tag sh), vec (shapeWidth sh) (fun k => maskLane (shapeWidth sh)
      (p (lane (shapeWidth sh) s.ports.a.data k) (lane (shapeWidth sh) s.ports.b.data k))) (shapeLanes sh)⟩

/-- SWIZZLE: lane `k` of the result is lane `idx_k` of A (45_rearrange.md R150, R151). -/
def State.swizzle (s : State) (sh : Shape) : State :=
  s.issue [needShape s.ports.a sh] (rangeFault (shapeLanes sh) (shapeLanes sh) s.ports.idx)
    ⟨Shape.tag sh, vec (shapeWidth sh) (fun k => lane (shapeWidth sh) s.ports.a.data (laneIndex s.ports.idx k))
      (shapeLanes sh)⟩

/-- The lane an index of SHUFFLE names: lane `j` of A below `N`, lane `j - N` of B from `N` on (45_rearrange.md R152). -/
def shuffleLane (sh : Shape) (a b : Data) (j : Nat) : BitVec (shapeWidth sh) :=
  if j < shapeLanes sh then lane (shapeWidth sh) a j else lane (shapeWidth sh) b (j - shapeLanes sh)

/-- SHUFFLE: lane `k` of the result is the lane `idx_k` of A's lanes followed by B's (45_rearrange.md R150, R152). -/
def State.shuffle (s : State) (sh : Shape) : State :=
  s.issue [needShape s.ports.a sh, needShape s.ports.b sh]
    (rangeFault (shapeLanes sh) (2 * shapeLanes sh) s.ports.idx)
    ⟨Shape.tag sh, vec (shapeWidth sh) (fun k => shuffleLane sh s.ports.a.data s.ports.b.data (laneIndex s.ports.idx k))
      (shapeLanes sh)⟩

/-- SELECT: lane `k` of the result is lane `k` of B where lane `k` of the mask A is all ones, else lane `k` of C
(46_select.md R160). -/
def State.select (s : State) (sh : Shape) : State :=
  s.issue [needMaskOf s.ports.a sh, needShape s.ports.b sh, needShape s.ports.c sh] false
    ⟨Shape.tag sh, vec (shapeWidth sh) (fun k =>
      if lane (shapeWidth sh) s.ports.a.data k = BitVec.allOnes (shapeWidth sh)
      then lane (shapeWidth sh) s.ports.b.data k else lane (shapeWidth sh) s.ports.c.data k) (shapeLanes sh)⟩

/-- BITSELECT: bit by bit, B where A is 1, else C; A may carry any valid tag (46_select.md R161). -/
def State.bitSelect (s : State) (sh : Shape) : State :=
  s.issue [needAny s.ports.a, needShape s.ports.b sh, needShape s.ports.c sh] false
    ⟨Shape.tag sh, (s.ports.b.data &&& s.ports.a.data) ||| (s.ports.c.data &&& ~~~s.ports.a.data)⟩

/-- CVT: destination lane `k` converts source lane `k`; a destination lane without a source lane is zero and a source
lane without a destination lane is dropped (41_conversion.md R90). -/
def State.convert (s : State) (dst src : Shape) (conv : BitVec (shapeWidth src) → BitVec (shapeWidth dst)) : State :=
  s.issue [needShape s.ports.a src] false
    ⟨Shape.tag dst, vec (shapeWidth dst) (fun k =>
      if k < shapeLanes src then conv (lane (shapeWidth src) s.ports.a.data k) else 0#(shapeWidth dst)) (shapeLanes dst)⟩

/-- The same 128 bits under the destination's tag: BITCAST (41_conversion.md R96), and CVT from a shape to itself
(R95). -/
def State.retag (s : State) (dst src : Shape) : State :=
  s.issue [needShape s.ports.a src] false ⟨Shape.tag dst, s.ports.a.data⟩

/-- CHECK: the operand unchanged, or TypeMismatch if it is no value or a value of another shape
(40_issue_and_check.md R85). -/
def State.check (s : State) (sh : Shape) : State :=
  if typeFault [needAny s.ports.a] then s.raiseError .typeMismatch
  else if s.ports.a.tag ≠ Shape.tag sh then s.raiseError .typeMismatch
  else s.deliver ⟨Shape.tag sh, s.ports.a.data⟩

end Sys2Proof.Machine
end

