-- ==== Sys2Proof/Machine/Arithmetic.lean ====
section
/-! DEFINITION. Elementwise arithmetic (42_arithmetic.md): ADD to RSQA. One meaning per instruction, each one line over the
shared operand forms of Ops.lean; every meaning answers a next state (60_exceptions.md R174, R175). -/
namespace Sys2Proof.Machine

/-- ADD.F64x2 (42_arithmetic.md R102). -/
def execAddF64x2 (s : State) : Host.Outcome State Fault Refusal := .next (s.binary .f64x2 (floatAdd binary64))

/-- ADD.F32x4 (42_arithmetic.md R102). -/
def execAddF32x4 (s : State) : Host.Outcome State Fault Refusal := .next (s.binary .f32x4 (floatAdd binary32))

/-- ADD.I32x4 (42_arithmetic.md R102). -/
def execAddI32x4 (s : State) : Host.Outcome State Fault Refusal := .next (s.binary .i32x4 intAdd)

/-- ADD.I16x8 (42_arithmetic.md R102). -/
def execAddI16x8 (s : State) : Host.Outcome State Fault Refusal := .next (s.binary .i16x8 intAdd)

/-- ADD.I8x16 (42_arithmetic.md R102). -/
def execAddI8x16 (s : State) : Host.Outcome State Fault Refusal := .next (s.binary .i8x16 intAdd)

/-- SUB.F64x2 (42_arithmetic.md R103). -/
def execSubF64x2 (s : State) : Host.Outcome State Fault Refusal := .next (s.binary .f64x2 (floatSub binary64))

/-- SUB.F32x4 (42_arithmetic.md R103). -/
def execSubF32x4 (s : State) : Host.Outcome State Fault Refusal := .next (s.binary .f32x4 (floatSub binary32))

/-- SUB.I32x4 (42_arithmetic.md R103). -/
def execSubI32x4 (s : State) : Host.Outcome State Fault Refusal := .next (s.binary .i32x4 intSub)

/-- SUB.I16x8 (42_arithmetic.md R103). -/
def execSubI16x8 (s : State) : Host.Outcome State Fault Refusal := .next (s.binary .i16x8 intSub)

/-- SUB.I8x16 (42_arithmetic.md R103). -/
def execSubI8x16 (s : State) : Host.Outcome State Fault Refusal := .next (s.binary .i8x16 intSub)

/-- MUL.F64x2 (42_arithmetic.md R104). -/
def execMulF64x2 (s : State) : Host.Outcome State Fault Refusal := .next (s.binary .f64x2 (floatMul binary64))

/-- MUL.F32x4 (42_arithmetic.md R104). -/
def execMulF32x4 (s : State) : Host.Outcome State Fault Refusal := .next (s.binary .f32x4 (floatMul binary32))

/-- MUL.I32x4 (42_arithmetic.md R104). -/
def execMulI32x4 (s : State) : Host.Outcome State Fault Refusal := .next (s.binary .i32x4 intMul)

/-- MUL.I16x8 (42_arithmetic.md R104). -/
def execMulI16x8 (s : State) : Host.Outcome State Fault Refusal := .next (s.binary .i16x8 intMul)

/-- MUL.I8x16 (42_arithmetic.md R104). -/
def execMulI8x16 (s : State) : Host.Outcome State Fault Refusal := .next (s.binary .i8x16 intMul)

/-- DIV.F64x2 (42_arithmetic.md R105). -/
def execDivF64x2 (s : State) : Host.Outcome State Fault Refusal := .next (s.binary .f64x2 (floatDiv binary64))

/-- DIV.F32x4 (42_arithmetic.md R105). -/
def execDivF32x4 (s : State) : Host.Outcome State Fault Refusal := .next (s.binary .f32x4 (floatDiv binary32))

/-- DIV.I32x4 (42_arithmetic.md R105). -/
def execDivI32x4 (s : State) : Host.Outcome State Fault Refusal := .next (s.binary .i32x4 intDiv)

/-- DIV.I16x8 (42_arithmetic.md R105). -/
def execDivI16x8 (s : State) : Host.Outcome State Fault Refusal := .next (s.binary .i16x8 intDiv)

/-- DIV.I8x16 (42_arithmetic.md R105). -/
def execDivI8x16 (s : State) : Host.Outcome State Fault Refusal := .next (s.binary .i8x16 intDiv)

/-- ABS.F64x2 (42_arithmetic.md R106). -/
def execAbsF64x2 (s : State) : Host.Outcome State Fault Refusal := .next (s.unary .f64x2 floatAbs)

/-- ABS.F32x4 (42_arithmetic.md R106). -/
def execAbsF32x4 (s : State) : Host.Outcome State Fault Refusal := .next (s.unary .f32x4 floatAbs)

/-- ABS.I32x4 (42_arithmetic.md R106). -/
def execAbsI32x4 (s : State) : Host.Outcome State Fault Refusal := .next (s.unary .i32x4 intAbs)

/-- ABS.I16x8 (42_arithmetic.md R106). -/
def execAbsI16x8 (s : State) : Host.Outcome State Fault Refusal := .next (s.unary .i16x8 intAbs)

/-- ABS.I8x16 (42_arithmetic.md R106). -/
def execAbsI8x16 (s : State) : Host.Outcome State Fault Refusal := .next (s.unary .i8x16 intAbs)

/-- NEG.F64x2 (42_arithmetic.md R107). -/
def execNegF64x2 (s : State) : Host.Outcome State Fault Refusal := .next (s.unary .f64x2 floatNeg)

/-- NEG.F32x4 (42_arithmetic.md R107). -/
def execNegF32x4 (s : State) : Host.Outcome State Fault Refusal := .next (s.unary .f32x4 floatNeg)

/-- NEG.I32x4 (42_arithmetic.md R107). -/
def execNegI32x4 (s : State) : Host.Outcome State Fault Refusal := .next (s.unary .i32x4 intNeg)

/-- NEG.I16x8 (42_arithmetic.md R107). -/
def execNegI16x8 (s : State) : Host.Outcome State Fault Refusal := .next (s.unary .i16x8 intNeg)

/-- NEG.I8x16 (42_arithmetic.md R107). -/
def execNegI8x16 (s : State) : Host.Outcome State Fault Refusal := .next (s.unary .i8x16 intNeg)

/-- MIN.F64x2 (42_arithmetic.md R108). -/
def execMinF64x2 (s : State) : Host.Outcome State Fault Refusal := .next (s.binary .f64x2 (floatMin binary64))

/-- MIN.F32x4 (42_arithmetic.md R108). -/
def execMinF32x4 (s : State) : Host.Outcome State Fault Refusal := .next (s.binary .f32x4 (floatMin binary32))

/-- MIN.I32x4 (42_arithmetic.md R108). -/
def execMinI32x4 (s : State) : Host.Outcome State Fault Refusal := .next (s.binary .i32x4 intMin)

/-- MIN.I16x8 (42_arithmetic.md R108). -/
def execMinI16x8 (s : State) : Host.Outcome State Fault Refusal := .next (s.binary .i16x8 intMin)

/-- MIN.I8x16 (42_arithmetic.md R108). -/
def execMinI8x16 (s : State) : Host.Outcome State Fault Refusal := .next (s.binary .i8x16 intMin)

/-- MAX.F64x2 (42_arithmetic.md R109). -/
def execMaxF64x2 (s : State) : Host.Outcome State Fault Refusal := .next (s.binary .f64x2 (floatMax binary64))

/-- MAX.F32x4 (42_arithmetic.md R109). -/
def execMaxF32x4 (s : State) : Host.Outcome State Fault Refusal := .next (s.binary .f32x4 (floatMax binary32))

/-- MAX.I32x4 (42_arithmetic.md R109). -/
def execMaxI32x4 (s : State) : Host.Outcome State Fault Refusal := .next (s.binary .i32x4 intMax)

/-- MAX.I16x8 (42_arithmetic.md R109). -/
def execMaxI16x8 (s : State) : Host.Outcome State Fault Refusal := .next (s.binary .i16x8 intMax)

/-- MAX.I8x16 (42_arithmetic.md R109). -/
def execMaxI8x16 (s : State) : Host.Outcome State Fault Refusal := .next (s.binary .i8x16 intMax)

/-- MINNUM.F64x2 (42_arithmetic.md R110). -/
def execMinnumF64x2 (s : State) : Host.Outcome State Fault Refusal := .next (s.binary .f64x2 (floatMinNum binary64))

/-- MINNUM.F32x4 (42_arithmetic.md R110). -/
def execMinnumF32x4 (s : State) : Host.Outcome State Fault Refusal := .next (s.binary .f32x4 (floatMinNum binary32))

/-- MAXNUM.F64x2 (42_arithmetic.md R111). -/
def execMaxnumF64x2 (s : State) : Host.Outcome State Fault Refusal := .next (s.binary .f64x2 (floatMaxNum binary64))

/-- MAXNUM.F32x4 (42_arithmetic.md R111). -/
def execMaxnumF32x4 (s : State) : Host.Outcome State Fault Refusal := .next (s.binary .f32x4 (floatMaxNum binary32))

/-- CLAMP.F64x2 (42_arithmetic.md R112). -/
def execClampF64x2 (s : State) : Host.Outcome State Fault Refusal := .next (s.ternary .f64x2 (floatClamp binary64))

/-- CLAMP.F32x4 (42_arithmetic.md R112). -/
def execClampF32x4 (s : State) : Host.Outcome State Fault Refusal := .next (s.ternary .f32x4 (floatClamp binary32))

/-- CLAMP.I32x4 (42_arithmetic.md R112). -/
def execClampI32x4 (s : State) : Host.Outcome State Fault Refusal := .next (s.ternary .i32x4 intClamp)

/-- CLAMP.I16x8 (42_arithmetic.md R112). -/
def execClampI16x8 (s : State) : Host.Outcome State Fault Refusal := .next (s.ternary .i16x8 intClamp)

/-- CLAMP.I8x16 (42_arithmetic.md R112). -/
def execClampI8x16 (s : State) : Host.Outcome State Fault Refusal := .next (s.ternary .i8x16 intClamp)

/-- SQRT.F64x2 (42_arithmetic.md R113). -/
def execSqrtF64x2 (s : State) : Host.Outcome State Fault Refusal := .next (s.unary .f64x2 (floatSqrt binary64))

/-- SQRT.F32x4 (42_arithmetic.md R113). -/
def execSqrtF32x4 (s : State) : Host.Outcome State Fault Refusal := .next (s.unary .f32x4 (floatSqrt binary32))

/-- RCPA.F64x2 (42_arithmetic.md R114). -/
def execRcpaF64x2 (s : State) : Host.Outcome State Fault Refusal := .next (s.unary .f64x2 (floatRcp binary64 Config.rcp64))

/-- RCPA.F32x4 (42_arithmetic.md R114). -/
def execRcpaF32x4 (s : State) : Host.Outcome State Fault Refusal := .next (s.unary .f32x4 (floatRcp binary32 Config.rcp32))

/-- RSQA.F64x2 (42_arithmetic.md R115). -/
def execRsqaF64x2 (s : State) : Host.Outcome State Fault Refusal := .next (s.unary .f64x2 (floatRsqrt binary64 Config.rsqrt64))

/-- RSQA.F32x4 (42_arithmetic.md R115). -/
def execRsqaF32x4 (s : State) : Host.Outcome State Fault Refusal := .next (s.unary .f32x4 (floatRsqrt binary32 Config.rsqrt32))

end Sys2Proof.Machine
end

