-- ==== Sys2Proof/Machine/Bitwise.lean ====
section
/-! DEFINITION. Bitwise logic on the whole 128-bit word (43_bitwise.md): AND, OR, XOR, NOT. One meaning per instruction, each one line over the
shared operand forms of Ops.lean; every meaning answers a next state (60_exceptions.md R174, R175). -/
namespace Sys2Proof.Machine

/-- Bit by bit AND (43_bitwise.md R130). -/
def wordAnd (a b : Data) : Data := a &&& b

/-- Bit by bit OR (43_bitwise.md R131). -/
def wordOr (a b : Data) : Data := a ||| b

/-- Bit by bit XOR (43_bitwise.md R132). -/
def wordXor (a b : Data) : Data := a ^^^ b

/-- All 128 bits inverted (43_bitwise.md R133). -/
def wordNot (a : Data) : Data := ~~~a

/-- AND.F64x2 (43_bitwise.md R130). -/
def execAndF64x2 (s : State) : Host.Outcome State Fault Refusal := .next (s.binaryWord .f64x2 wordAnd)

/-- AND.F32x4 (43_bitwise.md R130). -/
def execAndF32x4 (s : State) : Host.Outcome State Fault Refusal := .next (s.binaryWord .f32x4 wordAnd)

/-- AND.I32x4 (43_bitwise.md R130). -/
def execAndI32x4 (s : State) : Host.Outcome State Fault Refusal := .next (s.binaryWord .i32x4 wordAnd)

/-- AND.I16x8 (43_bitwise.md R130). -/
def execAndI16x8 (s : State) : Host.Outcome State Fault Refusal := .next (s.binaryWord .i16x8 wordAnd)

/-- AND.I8x16 (43_bitwise.md R130). -/
def execAndI8x16 (s : State) : Host.Outcome State Fault Refusal := .next (s.binaryWord .i8x16 wordAnd)

/-- AND.M64x2 (43_bitwise.md R130). -/
def execAndM64x2 (s : State) : Host.Outcome State Fault Refusal := .next (s.binaryWord .m64x2 wordAnd)

/-- AND.M32x4 (43_bitwise.md R130). -/
def execAndM32x4 (s : State) : Host.Outcome State Fault Refusal := .next (s.binaryWord .m32x4 wordAnd)

/-- AND.M16x8 (43_bitwise.md R130). -/
def execAndM16x8 (s : State) : Host.Outcome State Fault Refusal := .next (s.binaryWord .m16x8 wordAnd)

/-- AND.M8x16 (43_bitwise.md R130). -/
def execAndM8x16 (s : State) : Host.Outcome State Fault Refusal := .next (s.binaryWord .m8x16 wordAnd)

/-- OR.F64x2 (43_bitwise.md R131). -/
def execOrF64x2 (s : State) : Host.Outcome State Fault Refusal := .next (s.binaryWord .f64x2 wordOr)

/-- OR.F32x4 (43_bitwise.md R131). -/
def execOrF32x4 (s : State) : Host.Outcome State Fault Refusal := .next (s.binaryWord .f32x4 wordOr)

/-- OR.I32x4 (43_bitwise.md R131). -/
def execOrI32x4 (s : State) : Host.Outcome State Fault Refusal := .next (s.binaryWord .i32x4 wordOr)

/-- OR.I16x8 (43_bitwise.md R131). -/
def execOrI16x8 (s : State) : Host.Outcome State Fault Refusal := .next (s.binaryWord .i16x8 wordOr)

/-- OR.I8x16 (43_bitwise.md R131). -/
def execOrI8x16 (s : State) : Host.Outcome State Fault Refusal := .next (s.binaryWord .i8x16 wordOr)

/-- OR.M64x2 (43_bitwise.md R131). -/
def execOrM64x2 (s : State) : Host.Outcome State Fault Refusal := .next (s.binaryWord .m64x2 wordOr)

/-- OR.M32x4 (43_bitwise.md R131). -/
def execOrM32x4 (s : State) : Host.Outcome State Fault Refusal := .next (s.binaryWord .m32x4 wordOr)

/-- OR.M16x8 (43_bitwise.md R131). -/
def execOrM16x8 (s : State) : Host.Outcome State Fault Refusal := .next (s.binaryWord .m16x8 wordOr)

/-- OR.M8x16 (43_bitwise.md R131). -/
def execOrM8x16 (s : State) : Host.Outcome State Fault Refusal := .next (s.binaryWord .m8x16 wordOr)

/-- XOR.F64x2 (43_bitwise.md R132). -/
def execXorF64x2 (s : State) : Host.Outcome State Fault Refusal := .next (s.binaryWord .f64x2 wordXor)

/-- XOR.F32x4 (43_bitwise.md R132). -/
def execXorF32x4 (s : State) : Host.Outcome State Fault Refusal := .next (s.binaryWord .f32x4 wordXor)

/-- XOR.I32x4 (43_bitwise.md R132). -/
def execXorI32x4 (s : State) : Host.Outcome State Fault Refusal := .next (s.binaryWord .i32x4 wordXor)

/-- XOR.I16x8 (43_bitwise.md R132). -/
def execXorI16x8 (s : State) : Host.Outcome State Fault Refusal := .next (s.binaryWord .i16x8 wordXor)

/-- XOR.I8x16 (43_bitwise.md R132). -/
def execXorI8x16 (s : State) : Host.Outcome State Fault Refusal := .next (s.binaryWord .i8x16 wordXor)

/-- XOR.M64x2 (43_bitwise.md R132). -/
def execXorM64x2 (s : State) : Host.Outcome State Fault Refusal := .next (s.binaryWord .m64x2 wordXor)

/-- XOR.M32x4 (43_bitwise.md R132). -/
def execXorM32x4 (s : State) : Host.Outcome State Fault Refusal := .next (s.binaryWord .m32x4 wordXor)

/-- XOR.M16x8 (43_bitwise.md R132). -/
def execXorM16x8 (s : State) : Host.Outcome State Fault Refusal := .next (s.binaryWord .m16x8 wordXor)

/-- XOR.M8x16 (43_bitwise.md R132). -/
def execXorM8x16 (s : State) : Host.Outcome State Fault Refusal := .next (s.binaryWord .m8x16 wordXor)

/-- NOT.F64x2 (43_bitwise.md R133). -/
def execNotF64x2 (s : State) : Host.Outcome State Fault Refusal := .next (s.unaryWord .f64x2 wordNot)

/-- NOT.F32x4 (43_bitwise.md R133). -/
def execNotF32x4 (s : State) : Host.Outcome State Fault Refusal := .next (s.unaryWord .f32x4 wordNot)

/-- NOT.I32x4 (43_bitwise.md R133). -/
def execNotI32x4 (s : State) : Host.Outcome State Fault Refusal := .next (s.unaryWord .i32x4 wordNot)

/-- NOT.I16x8 (43_bitwise.md R133). -/
def execNotI16x8 (s : State) : Host.Outcome State Fault Refusal := .next (s.unaryWord .i16x8 wordNot)

/-- NOT.I8x16 (43_bitwise.md R133). -/
def execNotI8x16 (s : State) : Host.Outcome State Fault Refusal := .next (s.unaryWord .i8x16 wordNot)

/-- NOT.M64x2 (43_bitwise.md R133). -/
def execNotM64x2 (s : State) : Host.Outcome State Fault Refusal := .next (s.unaryWord .m64x2 wordNot)

/-- NOT.M32x4 (43_bitwise.md R133). -/
def execNotM32x4 (s : State) : Host.Outcome State Fault Refusal := .next (s.unaryWord .m32x4 wordNot)

/-- NOT.M16x8 (43_bitwise.md R133). -/
def execNotM16x8 (s : State) : Host.Outcome State Fault Refusal := .next (s.unaryWord .m16x8 wordNot)

/-- NOT.M8x16 (43_bitwise.md R133). -/
def execNotM8x16 (s : State) : Host.Outcome State Fault Refusal := .next (s.unaryWord .m8x16 wordNot)

end Sys2Proof.Machine
end

