-- ==== Sys2Proof/Machine/Check.lean ====
section
/-! DEFINITION. The shape check (40_issue_and_check.md R85): CHECK. One meaning per instruction, each one line over the
shared operand forms of Ops.lean; every meaning answers a next state (60_exceptions.md R174, R175). -/
namespace Sys2Proof.Machine

/-- CHECK.F64x2 (40_issue_and_check.md R85). -/
def execCheckF64x2 (s : State) : Host.Outcome State Fault Refusal := .next (s.check .f64x2)

/-- CHECK.F32x4 (40_issue_and_check.md R85). -/
def execCheckF32x4 (s : State) : Host.Outcome State Fault Refusal := .next (s.check .f32x4)

/-- CHECK.I32x4 (40_issue_and_check.md R85). -/
def execCheckI32x4 (s : State) : Host.Outcome State Fault Refusal := .next (s.check .i32x4)

/-- CHECK.I16x8 (40_issue_and_check.md R85). -/
def execCheckI16x8 (s : State) : Host.Outcome State Fault Refusal := .next (s.check .i16x8)

/-- CHECK.I8x16 (40_issue_and_check.md R85). -/
def execCheckI8x16 (s : State) : Host.Outcome State Fault Refusal := .next (s.check .i8x16)

/-- CHECK.M64x2 (40_issue_and_check.md R85). -/
def execCheckM64x2 (s : State) : Host.Outcome State Fault Refusal := .next (s.check .m64x2)

/-- CHECK.M32x4 (40_issue_and_check.md R85). -/
def execCheckM32x4 (s : State) : Host.Outcome State Fault Refusal := .next (s.check .m32x4)

/-- CHECK.M16x8 (40_issue_and_check.md R85). -/
def execCheckM16x8 (s : State) : Host.Outcome State Fault Refusal := .next (s.check .m16x8)

/-- CHECK.M8x16 (40_issue_and_check.md R85). -/
def execCheckM8x16 (s : State) : Host.Outcome State Fault Refusal := .next (s.check .m8x16)

end Sys2Proof.Machine
end

