-- ==== Sys2Proof/Machine/Compare.lean ====
section
/-! DEFINITION. Comparison and mask generation (44_compare.md): LT to GE. One meaning per instruction, each one line over the
shared operand forms of Ops.lean; every meaning answers a next state (60_exceptions.md R174, R175). -/
namespace Sys2Proof.Machine

/-- LT.F64x2 (44_compare.md R140, R141, R142). -/
def execLtF64x2 (s : State) : Host.Outcome State Fault Refusal := .next (s.compare .f64x2 (floatLt binary64))

/-- LT.F32x4 (44_compare.md R140, R141, R142). -/
def execLtF32x4 (s : State) : Host.Outcome State Fault Refusal := .next (s.compare .f32x4 (floatLt binary32))

/-- LT.I32x4 (44_compare.md R140, R141, R142). -/
def execLtI32x4 (s : State) : Host.Outcome State Fault Refusal := .next (s.compare .i32x4 intLt)

/-- LT.I16x8 (44_compare.md R140, R141, R142). -/
def execLtI16x8 (s : State) : Host.Outcome State Fault Refusal := .next (s.compare .i16x8 intLt)

/-- LT.I8x16 (44_compare.md R140, R141, R142). -/
def execLtI8x16 (s : State) : Host.Outcome State Fault Refusal := .next (s.compare .i8x16 intLt)

/-- LE.F64x2 (44_compare.md R140, R141, R143). -/
def execLeF64x2 (s : State) : Host.Outcome State Fault Refusal := .next (s.compare .f64x2 (floatLe binary64))

/-- LE.F32x4 (44_compare.md R140, R141, R143). -/
def execLeF32x4 (s : State) : Host.Outcome State Fault Refusal := .next (s.compare .f32x4 (floatLe binary32))

/-- LE.I32x4 (44_compare.md R140, R141, R143). -/
def execLeI32x4 (s : State) : Host.Outcome State Fault Refusal := .next (s.compare .i32x4 intLe)

/-- LE.I16x8 (44_compare.md R140, R141, R143). -/
def execLeI16x8 (s : State) : Host.Outcome State Fault Refusal := .next (s.compare .i16x8 intLe)

/-- LE.I8x16 (44_compare.md R140, R141, R143). -/
def execLeI8x16 (s : State) : Host.Outcome State Fault Refusal := .next (s.compare .i8x16 intLe)

/-- EQ.F64x2 (44_compare.md R140, R141, R144). -/
def execEqF64x2 (s : State) : Host.Outcome State Fault Refusal := .next (s.compare .f64x2 (floatEq binary64))

/-- EQ.F32x4 (44_compare.md R140, R141, R144). -/
def execEqF32x4 (s : State) : Host.Outcome State Fault Refusal := .next (s.compare .f32x4 (floatEq binary32))

/-- EQ.I32x4 (44_compare.md R140, R141, R144). -/
def execEqI32x4 (s : State) : Host.Outcome State Fault Refusal := .next (s.compare .i32x4 intEq)

/-- EQ.I16x8 (44_compare.md R140, R141, R144). -/
def execEqI16x8 (s : State) : Host.Outcome State Fault Refusal := .next (s.compare .i16x8 intEq)

/-- EQ.I8x16 (44_compare.md R140, R141, R144). -/
def execEqI8x16 (s : State) : Host.Outcome State Fault Refusal := .next (s.compare .i8x16 intEq)

/-- NE.F64x2 (44_compare.md R140, R141, R145). -/
def execNeF64x2 (s : State) : Host.Outcome State Fault Refusal := .next (s.compare .f64x2 (floatNe binary64))

/-- NE.F32x4 (44_compare.md R140, R141, R145). -/
def execNeF32x4 (s : State) : Host.Outcome State Fault Refusal := .next (s.compare .f32x4 (floatNe binary32))

/-- NE.I32x4 (44_compare.md R140, R141, R145). -/
def execNeI32x4 (s : State) : Host.Outcome State Fault Refusal := .next (s.compare .i32x4 intNe)

/-- NE.I16x8 (44_compare.md R140, R141, R145). -/
def execNeI16x8 (s : State) : Host.Outcome State Fault Refusal := .next (s.compare .i16x8 intNe)

/-- NE.I8x16 (44_compare.md R140, R141, R145). -/
def execNeI8x16 (s : State) : Host.Outcome State Fault Refusal := .next (s.compare .i8x16 intNe)

/-- GT.F64x2 (44_compare.md R140, R141, R146). -/
def execGtF64x2 (s : State) : Host.Outcome State Fault Refusal := .next (s.compare .f64x2 (floatGt binary64))

/-- GT.F32x4 (44_compare.md R140, R141, R146). -/
def execGtF32x4 (s : State) : Host.Outcome State Fault Refusal := .next (s.compare .f32x4 (floatGt binary32))

/-- GT.I32x4 (44_compare.md R140, R141, R146). -/
def execGtI32x4 (s : State) : Host.Outcome State Fault Refusal := .next (s.compare .i32x4 intGt)

/-- GT.I16x8 (44_compare.md R140, R141, R146). -/
def execGtI16x8 (s : State) : Host.Outcome State Fault Refusal := .next (s.compare .i16x8 intGt)

/-- GT.I8x16 (44_compare.md R140, R141, R146). -/
def execGtI8x16 (s : State) : Host.Outcome State Fault Refusal := .next (s.compare .i8x16 intGt)

/-- GE.F64x2 (44_compare.md R140, R141, R147). -/
def execGeF64x2 (s : State) : Host.Outcome State Fault Refusal := .next (s.compare .f64x2 (floatGe binary64))

/-- GE.F32x4 (44_compare.md R140, R141, R147). -/
def execGeF32x4 (s : State) : Host.Outcome State Fault Refusal := .next (s.compare .f32x4 (floatGe binary32))

/-- GE.I32x4 (44_compare.md R140, R141, R147). -/
def execGeI32x4 (s : State) : Host.Outcome State Fault Refusal := .next (s.compare .i32x4 intGe)

/-- GE.I16x8 (44_compare.md R140, R141, R147). -/
def execGeI16x8 (s : State) : Host.Outcome State Fault Refusal := .next (s.compare .i16x8 intGe)

/-- GE.I8x16 (44_compare.md R140, R141, R147). -/
def execGeI8x16 (s : State) : Host.Outcome State Fault Refusal := .next (s.compare .i8x16 intGe)

end Sys2Proof.Machine
end

