-- ==== Sys2Proof/Machine/Convert.lean ====
section
/-! DEFINITION. Numeric conversion and bit reinterpretation (41_conversion.md): CVT, BITCAST. One meaning per instruction, each one line over the
shared operand forms of Ops.lean; every meaning answers a next state (60_exceptions.md R174, R175). -/
namespace Sys2Proof.Machine

/-- CVT.F64x2.F64x2 (41_conversion.md R90, R95). -/
def execCvtF64x2F64x2 (s : State) : Host.Outcome State Fault Refusal := .next (s.retag .f64x2 .f64x2)

/-- CVT.F64x2.F32x4 (41_conversion.md R90, R94). -/
def execCvtF64x2F32x4 (s : State) : Host.Outcome State Fault Refusal := .next (s.convert .f64x2 .f32x4 (convFloatToFloat binary32 binary64 64))

/-- CVT.F64x2.I32x4 (41_conversion.md R90, R92). -/
def execCvtF64x2I32x4 (s : State) : Host.Outcome State Fault Refusal := .next (s.convert .f64x2 .i32x4 (convIntToFloat binary64 64))

/-- CVT.F64x2.I16x8 (41_conversion.md R90, R92). -/
def execCvtF64x2I16x8 (s : State) : Host.Outcome State Fault Refusal := .next (s.convert .f64x2 .i16x8 (convIntToFloat binary64 64))

/-- CVT.F64x2.I8x16 (41_conversion.md R90, R92). -/
def execCvtF64x2I8x16 (s : State) : Host.Outcome State Fault Refusal := .next (s.convert .f64x2 .i8x16 (convIntToFloat binary64 64))

/-- CVT.F32x4.F64x2 (41_conversion.md R90, R94). -/
def execCvtF32x4F64x2 (s : State) : Host.Outcome State Fault Refusal := .next (s.convert .f32x4 .f64x2 (convFloatToFloat binary64 binary32 32))

/-- CVT.F32x4.F32x4 (41_conversion.md R90, R95). -/
def execCvtF32x4F32x4 (s : State) : Host.Outcome State Fault Refusal := .next (s.retag .f32x4 .f32x4)

/-- CVT.F32x4.I32x4 (41_conversion.md R90, R92). -/
def execCvtF32x4I32x4 (s : State) : Host.Outcome State Fault Refusal := .next (s.convert .f32x4 .i32x4 (convIntToFloat binary32 32))

/-- CVT.F32x4.I16x8 (41_conversion.md R90, R92). -/
def execCvtF32x4I16x8 (s : State) : Host.Outcome State Fault Refusal := .next (s.convert .f32x4 .i16x8 (convIntToFloat binary32 32))

/-- CVT.F32x4.I8x16 (41_conversion.md R90, R92). -/
def execCvtF32x4I8x16 (s : State) : Host.Outcome State Fault Refusal := .next (s.convert .f32x4 .i8x16 (convIntToFloat binary32 32))

/-- CVT.I32x4.F64x2 (41_conversion.md R90, R93). -/
def execCvtI32x4F64x2 (s : State) : Host.Outcome State Fault Refusal := .next (s.convert .i32x4 .f64x2 (convFloatToInt binary64 32))

/-- CVT.I32x4.F32x4 (41_conversion.md R90, R93). -/
def execCvtI32x4F32x4 (s : State) : Host.Outcome State Fault Refusal := .next (s.convert .i32x4 .f32x4 (convFloatToInt binary32 32))

/-- CVT.I32x4.I32x4 (41_conversion.md R90, R95). -/
def execCvtI32x4I32x4 (s : State) : Host.Outcome State Fault Refusal := .next (s.retag .i32x4 .i32x4)

/-- CVT.I32x4.I16x8 (41_conversion.md R90, R91). -/
def execCvtI32x4I16x8 (s : State) : Host.Outcome State Fault Refusal := .next (s.convert .i32x4 .i16x8 (convSignExtend 32))

/-- CVT.I32x4.I8x16 (41_conversion.md R90, R91). -/
def execCvtI32x4I8x16 (s : State) : Host.Outcome State Fault Refusal := .next (s.convert .i32x4 .i8x16 (convSignExtend 32))

/-- CVT.I16x8.F64x2 (41_conversion.md R90, R93). -/
def execCvtI16x8F64x2 (s : State) : Host.Outcome State Fault Refusal := .next (s.convert .i16x8 .f64x2 (convFloatToInt binary64 16))

/-- CVT.I16x8.F32x4 (41_conversion.md R90, R93). -/
def execCvtI16x8F32x4 (s : State) : Host.Outcome State Fault Refusal := .next (s.convert .i16x8 .f32x4 (convFloatToInt binary32 16))

/-- CVT.I16x8.I32x4 (41_conversion.md R90, R91). -/
def execCvtI16x8I32x4 (s : State) : Host.Outcome State Fault Refusal := .next (s.convert .i16x8 .i32x4 (convTruncate 16))

/-- CVT.I16x8.I16x8 (41_conversion.md R90, R95). -/
def execCvtI16x8I16x8 (s : State) : Host.Outcome State Fault Refusal := .next (s.retag .i16x8 .i16x8)

/-- CVT.I16x8.I8x16 (41_conversion.md R90, R91). -/
def execCvtI16x8I8x16 (s : State) : Host.Outcome State Fault Refusal := .next (s.convert .i16x8 .i8x16 (convSignExtend 16))

/-- CVT.I8x16.F64x2 (41_conversion.md R90, R93). -/
def execCvtI8x16F64x2 (s : State) : Host.Outcome State Fault Refusal := .next (s.convert .i8x16 .f64x2 (convFloatToInt binary64 8))

/-- CVT.I8x16.F32x4 (41_conversion.md R90, R93). -/
def execCvtI8x16F32x4 (s : State) : Host.Outcome State Fault Refusal := .next (s.convert .i8x16 .f32x4 (convFloatToInt binary32 8))

/-- CVT.I8x16.I32x4 (41_conversion.md R90, R91). -/
def execCvtI8x16I32x4 (s : State) : Host.Outcome State Fault Refusal := .next (s.convert .i8x16 .i32x4 (convTruncate 8))

/-- CVT.I8x16.I16x8 (41_conversion.md R90, R91). -/
def execCvtI8x16I16x8 (s : State) : Host.Outcome State Fault Refusal := .next (s.convert .i8x16 .i16x8 (convTruncate 8))

/-- CVT.I8x16.I8x16 (41_conversion.md R90, R95). -/
def execCvtI8x16I8x16 (s : State) : Host.Outcome State Fault Refusal := .next (s.retag .i8x16 .i8x16)

/-- BITCAST.F64x2.F64x2 (41_conversion.md R96). -/
def execBitcastF64x2F64x2 (s : State) : Host.Outcome State Fault Refusal := .next (s.retag .f64x2 .f64x2)

/-- BITCAST.F64x2.F32x4 (41_conversion.md R96). -/
def execBitcastF64x2F32x4 (s : State) : Host.Outcome State Fault Refusal := .next (s.retag .f64x2 .f32x4)

/-- BITCAST.F64x2.I32x4 (41_conversion.md R96). -/
def execBitcastF64x2I32x4 (s : State) : Host.Outcome State Fault Refusal := .next (s.retag .f64x2 .i32x4)

/-- BITCAST.F64x2.I16x8 (41_conversion.md R96). -/
def execBitcastF64x2I16x8 (s : State) : Host.Outcome State Fault Refusal := .next (s.retag .f64x2 .i16x8)

/-- BITCAST.F64x2.I8x16 (41_conversion.md R96). -/
def execBitcastF64x2I8x16 (s : State) : Host.Outcome State Fault Refusal := .next (s.retag .f64x2 .i8x16)

/-- BITCAST.F32x4.F64x2 (41_conversion.md R96). -/
def execBitcastF32x4F64x2 (s : State) : Host.Outcome State Fault Refusal := .next (s.retag .f32x4 .f64x2)

/-- BITCAST.F32x4.F32x4 (41_conversion.md R96). -/
def execBitcastF32x4F32x4 (s : State) : Host.Outcome State Fault Refusal := .next (s.retag .f32x4 .f32x4)

/-- BITCAST.F32x4.I32x4 (41_conversion.md R96). -/
def execBitcastF32x4I32x4 (s : State) : Host.Outcome State Fault Refusal := .next (s.retag .f32x4 .i32x4)

/-- BITCAST.F32x4.I16x8 (41_conversion.md R96). -/
def execBitcastF32x4I16x8 (s : State) : Host.Outcome State Fault Refusal := .next (s.retag .f32x4 .i16x8)

/-- BITCAST.F32x4.I8x16 (41_conversion.md R96). -/
def execBitcastF32x4I8x16 (s : State) : Host.Outcome State Fault Refusal := .next (s.retag .f32x4 .i8x16)

/-- BITCAST.I32x4.F64x2 (41_conversion.md R96). -/
def execBitcastI32x4F64x2 (s : State) : Host.Outcome State Fault Refusal := .next (s.retag .i32x4 .f64x2)

/-- BITCAST.I32x4.F32x4 (41_conversion.md R96). -/
def execBitcastI32x4F32x4 (s : State) : Host.Outcome State Fault Refusal := .next (s.retag .i32x4 .f32x4)

/-- BITCAST.I32x4.I32x4 (41_conversion.md R96). -/
def execBitcastI32x4I32x4 (s : State) : Host.Outcome State Fault Refusal := .next (s.retag .i32x4 .i32x4)

/-- BITCAST.I32x4.I16x8 (41_conversion.md R96). -/
def execBitcastI32x4I16x8 (s : State) : Host.Outcome State Fault Refusal := .next (s.retag .i32x4 .i16x8)

/-- BITCAST.I32x4.I8x16 (41_conversion.md R96). -/
def execBitcastI32x4I8x16 (s : State) : Host.Outcome State Fault Refusal := .next (s.retag .i32x4 .i8x16)

/-- BITCAST.I16x8.F64x2 (41_conversion.md R96). -/
def execBitcastI16x8F64x2 (s : State) : Host.Outcome State Fault Refusal := .next (s.retag .i16x8 .f64x2)

/-- BITCAST.I16x8.F32x4 (41_conversion.md R96). -/
def execBitcastI16x8F32x4 (s : State) : Host.Outcome State Fault Refusal := .next (s.retag .i16x8 .f32x4)

/-- BITCAST.I16x8.I32x4 (41_conversion.md R96). -/
def execBitcastI16x8I32x4 (s : State) : Host.Outcome State Fault Refusal := .next (s.retag .i16x8 .i32x4)

/-- BITCAST.I16x8.I16x8 (41_conversion.md R96). -/
def execBitcastI16x8I16x8 (s : State) : Host.Outcome State Fault Refusal := .next (s.retag .i16x8 .i16x8)

/-- BITCAST.I16x8.I8x16 (41_conversion.md R96). -/
def execBitcastI16x8I8x16 (s : State) : Host.Outcome State Fault Refusal := .next (s.retag .i16x8 .i8x16)

/-- BITCAST.I8x16.F64x2 (41_conversion.md R96). -/
def execBitcastI8x16F64x2 (s : State) : Host.Outcome State Fault Refusal := .next (s.retag .i8x16 .f64x2)

/-- BITCAST.I8x16.F32x4 (41_conversion.md R96). -/
def execBitcastI8x16F32x4 (s : State) : Host.Outcome State Fault Refusal := .next (s.retag .i8x16 .f32x4)

/-- BITCAST.I8x16.I32x4 (41_conversion.md R96). -/
def execBitcastI8x16I32x4 (s : State) : Host.Outcome State Fault Refusal := .next (s.retag .i8x16 .i32x4)

/-- BITCAST.I8x16.I16x8 (41_conversion.md R96). -/
def execBitcastI8x16I16x8 (s : State) : Host.Outcome State Fault Refusal := .next (s.retag .i8x16 .i16x8)

/-- BITCAST.I8x16.I8x16 (41_conversion.md R96). -/
def execBitcastI8x16I8x16 (s : State) : Host.Outcome State Fault Refusal := .next (s.retag .i8x16 .i8x16)

end Sys2Proof.Machine
end

