-- ==== Sys2Proof/Machine/Rearrange.lean ====
section
/-! DEFINITION. The permutation network (45_rearrange.md): SWIZZLE, SHUFFLE. One meaning per instruction, each one line over the
shared operand forms of Ops.lean; every meaning answers a next state (60_exceptions.md R174, R175). -/
namespace Sys2Proof.Machine

/-- SWIZZLE.F64x2 (45_rearrange.md R150, R151). -/
def execSwizzleF64x2 (s : State) : Host.Outcome State Fault Refusal := .next (s.swizzle .f64x2)

/-- SWIZZLE.F32x4 (45_rearrange.md R150, R151). -/
def execSwizzleF32x4 (s : State) : Host.Outcome State Fault Refusal := .next (s.swizzle .f32x4)

/-- SWIZZLE.I32x4 (45_rearrange.md R150, R151). -/
def execSwizzleI32x4 (s : State) : Host.Outcome State Fault Refusal := .next (s.swizzle .i32x4)

/-- SWIZZLE.I16x8 (45_rearrange.md R150, R151). -/
def execSwizzleI16x8 (s : State) : Host.Outcome State Fault Refusal := .next (s.swizzle .i16x8)

/-- SWIZZLE.I8x16 (45_rearrange.md R150, R151). -/
def execSwizzleI8x16 (s : State) : Host.Outcome State Fault Refusal := .next (s.swizzle .i8x16)

/-- SWIZZLE.M64x2 (45_rearrange.md R150, R151). -/
def execSwizzleM64x2 (s : State) : Host.Outcome State Fault Refusal := .next (s.swizzle .m64x2)

/-- SWIZZLE.M32x4 (45_rearrange.md R150, R151). -/
def execSwizzleM32x4 (s : State) : Host.Outcome State Fault Refusal := .next (s.swizzle .m32x4)

/-- SWIZZLE.M16x8 (45_rearrange.md R150, R151). -/
def execSwizzleM16x8 (s : State) : Host.Outcome State Fault Refusal := .next (s.swizzle .m16x8)

/-- SWIZZLE.M8x16 (45_rearrange.md R150, R151). -/
def execSwizzleM8x16 (s : State) : Host.Outcome State Fault Refusal := .next (s.swizzle .m8x16)

/-- SHUFFLE.F64x2 (45_rearrange.md R150, R152). -/
def execShuffleF64x2 (s : State) : Host.Outcome State Fault Refusal := .next (s.shuffle .f64x2)

/-- SHUFFLE.F32x4 (45_rearrange.md R150, R152). -/
def execShuffleF32x4 (s : State) : Host.Outcome State Fault Refusal := .next (s.shuffle .f32x4)

/-- SHUFFLE.I32x4 (45_rearrange.md R150, R152). -/
def execShuffleI32x4 (s : State) : Host.Outcome State Fault Refusal := .next (s.shuffle .i32x4)

/-- SHUFFLE.I16x8 (45_rearrange.md R150, R152). -/
def execShuffleI16x8 (s : State) : Host.Outcome State Fault Refusal := .next (s.shuffle .i16x8)

/-- SHUFFLE.I8x16 (45_rearrange.md R150, R152). -/
def execShuffleI8x16 (s : State) : Host.Outcome State Fault Refusal := .next (s.shuffle .i8x16)

/-- SHUFFLE.M64x2 (45_rearrange.md R150, R152). -/
def execShuffleM64x2 (s : State) : Host.Outcome State Fault Refusal := .next (s.shuffle .m64x2)

/-- SHUFFLE.M32x4 (45_rearrange.md R150, R152). -/
def execShuffleM32x4 (s : State) : Host.Outcome State Fault Refusal := .next (s.shuffle .m32x4)

/-- SHUFFLE.M16x8 (45_rearrange.md R150, R152). -/
def execShuffleM16x8 (s : State) : Host.Outcome State Fault Refusal := .next (s.shuffle .m16x8)

/-- SHUFFLE.M8x16 (45_rearrange.md R150, R152). -/
def execShuffleM8x16 (s : State) : Host.Outcome State Fault Refusal := .next (s.shuffle .m8x16)

end Sys2Proof.Machine
end

