-- ==== Sys2Proof/Machine/Select.lean ====
section
/-! DEFINITION. The lane and bit multiplexers (46_select.md): SELECT, BITSELECT. One meaning per instruction, each one line over the
shared operand forms of Ops.lean; every meaning answers a next state (60_exceptions.md R174, R175). -/
namespace Sys2Proof.Machine

/-- SELECT.F64x2 (46_select.md R160). -/
def execSelectF64x2 (s : State) : Host.Outcome State Fault Refusal := .next (s.select .f64x2)

/-- SELECT.F32x4 (46_select.md R160). -/
def execSelectF32x4 (s : State) : Host.Outcome State Fault Refusal := .next (s.select .f32x4)

/-- SELECT.I32x4 (46_select.md R160). -/
def execSelectI32x4 (s : State) : Host.Outcome State Fault Refusal := .next (s.select .i32x4)

/-- SELECT.I16x8 (46_select.md R160). -/
def execSelectI16x8 (s : State) : Host.Outcome State Fault Refusal := .next (s.select .i16x8)

/-- SELECT.I8x16 (46_select.md R160). -/
def execSelectI8x16 (s : State) : Host.Outcome State Fault Refusal := .next (s.select .i8x16)

/-- SELECT.M64x2 (46_select.md R160). -/
def execSelectM64x2 (s : State) : Host.Outcome State Fault Refusal := .next (s.select .m64x2)

/-- SELECT.M32x4 (46_select.md R160). -/
def execSelectM32x4 (s : State) : Host.Outcome State Fault Refusal := .next (s.select .m32x4)

/-- SELECT.M16x8 (46_select.md R160). -/
def execSelectM16x8 (s : State) : Host.Outcome State Fault Refusal := .next (s.select .m16x8)

/-- SELECT.M8x16 (46_select.md R160). -/
def execSelectM8x16 (s : State) : Host.Outcome State Fault Refusal := .next (s.select .m8x16)

/-- BITSELECT.F64x2 (46_select.md R161). -/
def execBitselectF64x2 (s : State) : Host.Outcome State Fault Refusal := .next (s.bitSelect .f64x2)

/-- BITSELECT.F32x4 (46_select.md R161). -/
def execBitselectF32x4 (s : State) : Host.Outcome State Fault Refusal := .next (s.bitSelect .f32x4)

/-- BITSELECT.I32x4 (46_select.md R161). -/
def execBitselectI32x4 (s : State) : Host.Outcome State Fault Refusal := .next (s.bitSelect .i32x4)

/-- BITSELECT.I16x8 (46_select.md R161). -/
def execBitselectI16x8 (s : State) : Host.Outcome State Fault Refusal := .next (s.bitSelect .i16x8)

/-- BITSELECT.I8x16 (46_select.md R161). -/
def execBitselectI8x16 (s : State) : Host.Outcome State Fault Refusal := .next (s.bitSelect .i8x16)

end Sys2Proof.Machine
end

