-- ==== Sys2Proof/Machine/Dispatch.lean ====
section
/-! DEFINITION. exec: one arm per constructor of `Instr`, each one call of that instruction's meaning. -/
namespace Sys2Proof.Machine

def exec (i : Instr) (s : State) : Host.Outcome State Fault Refusal :=
  match i with
  | .addF64x2 => Sys2Proof.Machine.execAddF64x2 s
  | .addF32x4 => Sys2Proof.Machine.execAddF32x4 s
  | .addI32x4 => Sys2Proof.Machine.execAddI32x4 s
  | .addI16x8 => Sys2Proof.Machine.execAddI16x8 s
  | .addI8x16 => Sys2Proof.Machine.execAddI8x16 s
  | .subF64x2 => Sys2Proof.Machine.execSubF64x2 s
  | .subF32x4 => Sys2Proof.Machine.execSubF32x4 s
  | .subI32x4 => Sys2Proof.Machine.execSubI32x4 s
  | .subI16x8 => Sys2Proof.Machine.execSubI16x8 s
  | .subI8x16 => Sys2Proof.Machine.execSubI8x16 s
  | .mulF64x2 => Sys2Proof.Machine.execMulF64x2 s
  | .mulF32x4 => Sys2Proof.Machine.execMulF32x4 s
  | .mulI32x4 => Sys2Proof.Machine.execMulI32x4 s
  | .mulI16x8 => Sys2Proof.Machine.execMulI16x8 s
  | .mulI8x16 => Sys2Proof.Machine.execMulI8x16 s
  | .divF64x2 => Sys2Proof.Machine.execDivF64x2 s
  | .divF32x4 => Sys2Proof.Machine.execDivF32x4 s
  | .divI32x4 => Sys2Proof.Machine.execDivI32x4 s
  | .divI16x8 => Sys2Proof.Machine.execDivI16x8 s
  | .divI8x16 => Sys2Proof.Machine.execDivI8x16 s
  | .absF64x2 => Sys2Proof.Machine.execAbsF64x2 s
  | .absF32x4 => Sys2Proof.Machine.execAbsF32x4 s
  | .absI32x4 => Sys2Proof.Machine.execAbsI32x4 s
  | .absI16x8 => Sys2Proof.Machine.execAbsI16x8 s
  | .absI8x16 => Sys2Proof.Machine.execAbsI8x16 s
  | .negF64x2 => Sys2Proof.Machine.execNegF64x2 s
  | .negF32x4 => Sys2Proof.Machine.execNegF32x4 s
  | .negI32x4 => Sys2Proof.Machine.execNegI32x4 s
  | .negI16x8 => Sys2Proof.Machine.execNegI16x8 s
  | .negI8x16 => Sys2Proof.Machine.execNegI8x16 s
  | .minF64x2 => Sys2Proof.Machine.execMinF64x2 s
  | .minF32x4 => Sys2Proof.Machine.execMinF32x4 s
  | .minI32x4 => Sys2Proof.Machine.execMinI32x4 s
  | .minI16x8 => Sys2Proof.Machine.execMinI16x8 s
  | .minI8x16 => Sys2Proof.Machine.execMinI8x16 s
  | .maxF64x2 => Sys2Proof.Machine.execMaxF64x2 s
  | .maxF32x4 => Sys2Proof.Machine.execMaxF32x4 s
  | .maxI32x4 => Sys2Proof.Machine.execMaxI32x4 s
  | .maxI16x8 => Sys2Proof.Machine.execMaxI16x8 s
  | .maxI8x16 => Sys2Proof.Machine.execMaxI8x16 s
  | .minnumF64x2 => Sys2Proof.Machine.execMinnumF64x2 s
  | .minnumF32x4 => Sys2Proof.Machine.execMinnumF32x4 s
  | .maxnumF64x2 => Sys2Proof.Machine.execMaxnumF64x2 s
  | .maxnumF32x4 => Sys2Proof.Machine.execMaxnumF32x4 s
  | .clampF64x2 => Sys2Proof.Machine.execClampF64x2 s
  | .clampF32x4 => Sys2Proof.Machine.execClampF32x4 s
  | .clampI32x4 => Sys2Proof.Machine.execClampI32x4 s
  | .clampI16x8 => Sys2Proof.Machine.execClampI16x8 s
  | .clampI8x16 => Sys2Proof.Machine.execClampI8x16 s
  | .sqrtF64x2 => Sys2Proof.Machine.execSqrtF64x2 s
  | .sqrtF32x4 => Sys2Proof.Machine.execSqrtF32x4 s
  | .rcpaF64x2 => Sys2Proof.Machine.execRcpaF64x2 s
  | .rcpaF32x4 => Sys2Proof.Machine.execRcpaF32x4 s
  | .rsqaF64x2 => Sys2Proof.Machine.execRsqaF64x2 s
  | .rsqaF32x4 => Sys2Proof.Machine.execRsqaF32x4 s
  | .andF64x2 => Sys2Proof.Machine.execAndF64x2 s
  | .andF32x4 => Sys2Proof.Machine.execAndF32x4 s
  | .andI32x4 => Sys2Proof.Machine.execAndI32x4 s
  | .andI16x8 => Sys2Proof.Machine.execAndI16x8 s
  | .andI8x16 => Sys2Proof.Machine.execAndI8x16 s
  | .andM64x2 => Sys2Proof.Machine.execAndM64x2 s
  | .andM32x4 => Sys2Proof.Machine.execAndM32x4 s
  | .andM16x8 => Sys2Proof.Machine.execAndM16x8 s
  | .andM8x16 => Sys2Proof.Machine.execAndM8x16 s
  | .orF64x2 => Sys2Proof.Machine.execOrF64x2 s
  | .orF32x4 => Sys2Proof.Machine.execOrF32x4 s
  | .orI32x4 => Sys2Proof.Machine.execOrI32x4 s
  | .orI16x8 => Sys2Proof.Machine.execOrI16x8 s
  | .orI8x16 => Sys2Proof.Machine.execOrI8x16 s
  | .orM64x2 => Sys2Proof.Machine.execOrM64x2 s
  | .orM32x4 => Sys2Proof.Machine.execOrM32x4 s
  | .orM16x8 => Sys2Proof.Machine.execOrM16x8 s
  | .orM8x16 => Sys2Proof.Machine.execOrM8x16 s
  | .xorF64x2 => Sys2Proof.Machine.execXorF64x2 s
  | .xorF32x4 => Sys2Proof.Machine.execXorF32x4 s
  | .xorI32x4 => Sys2Proof.Machine.execXorI32x4 s
  | .xorI16x8 => Sys2Proof.Machine.execXorI16x8 s
  | .xorI8x16 => Sys2Proof.Machine.execXorI8x16 s
  | .xorM64x2 => Sys2Proof.Machine.execXorM64x2 s
  | .xorM32x4 => Sys2Proof.Machine.execXorM32x4 s
  | .xorM16x8 => Sys2Proof.Machine.execXorM16x8 s
  | .xorM8x16 => Sys2Proof.Machine.execXorM8x16 s
  | .notF64x2 => Sys2Proof.Machine.execNotF64x2 s
  | .notF32x4 => Sys2Proof.Machine.execNotF32x4 s
  | .notI32x4 => Sys2Proof.Machine.execNotI32x4 s
  | .notI16x8 => Sys2Proof.Machine.execNotI16x8 s
  | .notI8x16 => Sys2Proof.Machine.execNotI8x16 s
  | .notM64x2 => Sys2Proof.Machine.execNotM64x2 s
  | .notM32x4 => Sys2Proof.Machine.execNotM32x4 s
  | .notM16x8 => Sys2Proof.Machine.execNotM16x8 s
  | .notM8x16 => Sys2Proof.Machine.execNotM8x16 s
  | .ltF64x2 => Sys2Proof.Machine.execLtF64x2 s
  | .ltF32x4 => Sys2Proof.Machine.execLtF32x4 s
  | .ltI32x4 => Sys2Proof.Machine.execLtI32x4 s
  | .ltI16x8 => Sys2Proof.Machine.execLtI16x8 s
  | .ltI8x16 => Sys2Proof.Machine.execLtI8x16 s
  | .leF64x2 => Sys2Proof.Machine.execLeF64x2 s
  | .leF32x4 => Sys2Proof.Machine.execLeF32x4 s
  | .leI32x4 => Sys2Proof.Machine.execLeI32x4 s
  | .leI16x8 => Sys2Proof.Machine.execLeI16x8 s
  | .leI8x16 => Sys2Proof.Machine.execLeI8x16 s
  | .eqF64x2 => Sys2Proof.Machine.execEqF64x2 s
  | .eqF32x4 => Sys2Proof.Machine.execEqF32x4 s
  | .eqI32x4 => Sys2Proof.Machine.execEqI32x4 s
  | .eqI16x8 => Sys2Proof.Machine.execEqI16x8 s
  | .eqI8x16 => Sys2Proof.Machine.execEqI8x16 s
  | .neF64x2 => Sys2Proof.Machine.execNeF64x2 s
  | .neF32x4 => Sys2Proof.Machine.execNeF32x4 s
  | .neI32x4 => Sys2Proof.Machine.execNeI32x4 s
  | .neI16x8 => Sys2Proof.Machine.execNeI16x8 s
  | .neI8x16 => Sys2Proof.Machine.execNeI8x16 s
  | .gtF64x2 => Sys2Proof.Machine.execGtF64x2 s
  | .gtF32x4 => Sys2Proof.Machine.execGtF32x4 s
  | .gtI32x4 => Sys2Proof.Machine.execGtI32x4 s
  | .gtI16x8 => Sys2Proof.Machine.execGtI16x8 s
  | .gtI8x16 => Sys2Proof.Machine.execGtI8x16 s
  | .geF64x2 => Sys2Proof.Machine.execGeF64x2 s
  | .geF32x4 => Sys2Proof.Machine.execGeF32x4 s
  | .geI32x4 => Sys2Proof.Machine.execGeI32x4 s
  | .geI16x8 => Sys2Proof.Machine.execGeI16x8 s
  | .geI8x16 => Sys2Proof.Machine.execGeI8x16 s
  | .swizzleF64x2 => Sys2Proof.Machine.execSwizzleF64x2 s
  | .swizzleF32x4 => Sys2Proof.Machine.execSwizzleF32x4 s
  | .swizzleI32x4 => Sys2Proof.Machine.execSwizzleI32x4 s
  | .swizzleI16x8 => Sys2Proof.Machine.execSwizzleI16x8 s
  | .swizzleI8x16 => Sys2Proof.Machine.execSwizzleI8x16 s
  | .swizzleM64x2 => Sys2Proof.Machine.execSwizzleM64x2 s
  | .swizzleM32x4 => Sys2Proof.Machine.execSwizzleM32x4 s
  | .swizzleM16x8 => Sys2Proof.Machine.execSwizzleM16x8 s
  | .swizzleM8x16 => Sys2Proof.Machine.execSwizzleM8x16 s
  | .shuffleF64x2 => Sys2Proof.Machine.execShuffleF64x2 s
  | .shuffleF32x4 => Sys2Proof.Machine.execShuffleF32x4 s
  | .shuffleI32x4 => Sys2Proof.Machine.execShuffleI32x4 s
  | .shuffleI16x8 => Sys2Proof.Machine.execShuffleI16x8 s
  | .shuffleI8x16 => Sys2Proof.Machine.execShuffleI8x16 s
  | .shuffleM64x2 => Sys2Proof.Machine.execShuffleM64x2 s
  | .shuffleM32x4 => Sys2Proof.Machine.execShuffleM32x4 s
  | .shuffleM16x8 => Sys2Proof.Machine.execShuffleM16x8 s
  | .shuffleM8x16 => Sys2Proof.Machine.execShuffleM8x16 s
  | .selectF64x2 => Sys2Proof.Machine.execSelectF64x2 s
  | .selectF32x4 => Sys2Proof.Machine.execSelectF32x4 s
  | .selectI32x4 => Sys2Proof.Machine.execSelectI32x4 s
  | .selectI16x8 => Sys2Proof.Machine.execSelectI16x8 s
  | .selectI8x16 => Sys2Proof.Machine.execSelectI8x16 s
  | .selectM64x2 => Sys2Proof.Machine.execSelectM64x2 s
  | .selectM32x4 => Sys2Proof.Machine.execSelectM32x4 s
  | .selectM16x8 => Sys2Proof.Machine.execSelectM16x8 s
  | .selectM8x16 => Sys2Proof.Machine.execSelectM8x16 s
  | .bitselectF64x2 => Sys2Proof.Machine.execBitselectF64x2 s
  | .bitselectF32x4 => Sys2Proof.Machine.execBitselectF32x4 s
  | .bitselectI32x4 => Sys2Proof.Machine.execBitselectI32x4 s
  | .bitselectI16x8 => Sys2Proof.Machine.execBitselectI16x8 s
  | .bitselectI8x16 => Sys2Proof.Machine.execBitselectI8x16 s
  | .cvtF64x2F64x2 => Sys2Proof.Machine.execCvtF64x2F64x2 s
  | .cvtF64x2F32x4 => Sys2Proof.Machine.execCvtF64x2F32x4 s
  | .cvtF64x2I32x4 => Sys2Proof.Machine.execCvtF64x2I32x4 s
  | .cvtF64x2I16x8 => Sys2Proof.Machine.execCvtF64x2I16x8 s
  | .cvtF64x2I8x16 => Sys2Proof.Machine.execCvtF64x2I8x16 s
  | .cvtF32x4F64x2 => Sys2Proof.Machine.execCvtF32x4F64x2 s
  | .cvtF32x4F32x4 => Sys2Proof.Machine.execCvtF32x4F32x4 s
  | .cvtF32x4I32x4 => Sys2Proof.Machine.execCvtF32x4I32x4 s
  | .cvtF32x4I16x8 => Sys2Proof.Machine.execCvtF32x4I16x8 s
  | .cvtF32x4I8x16 => Sys2Proof.Machine.execCvtF32x4I8x16 s
  | .cvtI32x4F64x2 => Sys2Proof.Machine.execCvtI32x4F64x2 s
  | .cvtI32x4F32x4 => Sys2Proof.Machine.execCvtI32x4F32x4 s
  | .cvtI32x4I32x4 => Sys2Proof.Machine.execCvtI32x4I32x4 s
  | .cvtI32x4I16x8 => Sys2Proof.Machine.execCvtI32x4I16x8 s
  | .cvtI32x4I8x16 => Sys2Proof.Machine.execCvtI32x4I8x16 s
  | .cvtI16x8F64x2 => Sys2Proof.Machine.execCvtI16x8F64x2 s
  | .cvtI16x8F32x4 => Sys2Proof.Machine.execCvtI16x8F32x4 s
  | .cvtI16x8I32x4 => Sys2Proof.Machine.execCvtI16x8I32x4 s
  | .cvtI16x8I16x8 => Sys2Proof.Machine.execCvtI16x8I16x8 s
  | .cvtI16x8I8x16 => Sys2Proof.Machine.execCvtI16x8I8x16 s
  | .cvtI8x16F64x2 => Sys2Proof.Machine.execCvtI8x16F64x2 s
  | .cvtI8x16F32x4 => Sys2Proof.Machine.execCvtI8x16F32x4 s
  | .cvtI8x16I32x4 => Sys2Proof.Machine.execCvtI8x16I32x4 s
  | .cvtI8x16I16x8 => Sys2Proof.Machine.execCvtI8x16I16x8 s
  | .cvtI8x16I8x16 => Sys2Proof.Machine.execCvtI8x16I8x16 s
  | .bitcastF64x2F64x2 => Sys2Proof.Machine.execBitcastF64x2F64x2 s
  | .bitcastF64x2F32x4 => Sys2Proof.Machine.execBitcastF64x2F32x4 s
  | .bitcastF64x2I32x4 => Sys2Proof.Machine.execBitcastF64x2I32x4 s
  | .bitcastF64x2I16x8 => Sys2Proof.Machine.execBitcastF64x2I16x8 s
  | .bitcastF64x2I8x16 => Sys2Proof.Machine.execBitcastF64x2I8x16 s
  | .bitcastF32x4F64x2 => Sys2Proof.Machine.execBitcastF32x4F64x2 s
  | .bitcastF32x4F32x4 => Sys2Proof.Machine.execBitcastF32x4F32x4 s
  | .bitcastF32x4I32x4 => Sys2Proof.Machine.execBitcastF32x4I32x4 s
  | .bitcastF32x4I16x8 => Sys2Proof.Machine.execBitcastF32x4I16x8 s
  | .bitcastF32x4I8x16 => Sys2Proof.Machine.execBitcastF32x4I8x16 s
  | .bitcastI32x4F64x2 => Sys2Proof.Machine.execBitcastI32x4F64x2 s
  | .bitcastI32x4F32x4 => Sys2Proof.Machine.execBitcastI32x4F32x4 s
  | .bitcastI32x4I32x4 => Sys2Proof.Machine.execBitcastI32x4I32x4 s
  | .bitcastI32x4I16x8 => Sys2Proof.Machine.execBitcastI32x4I16x8 s
  | .bitcastI32x4I8x16 => Sys2Proof.Machine.execBitcastI32x4I8x16 s
  | .bitcastI16x8F64x2 => Sys2Proof.Machine.execBitcastI16x8F64x2 s
  | .bitcastI16x8F32x4 => Sys2Proof.Machine.execBitcastI16x8F32x4 s
  | .bitcastI16x8I32x4 => Sys2Proof.Machine.execBitcastI16x8I32x4 s
  | .bitcastI16x8I16x8 => Sys2Proof.Machine.execBitcastI16x8I16x8 s
  | .bitcastI16x8I8x16 => Sys2Proof.Machine.execBitcastI16x8I8x16 s
  | .bitcastI8x16F64x2 => Sys2Proof.Machine.execBitcastI8x16F64x2 s
  | .bitcastI8x16F32x4 => Sys2Proof.Machine.execBitcastI8x16F32x4 s
  | .bitcastI8x16I32x4 => Sys2Proof.Machine.execBitcastI8x16I32x4 s
  | .bitcastI8x16I16x8 => Sys2Proof.Machine.execBitcastI8x16I16x8 s
  | .bitcastI8x16I8x16 => Sys2Proof.Machine.execBitcastI8x16I8x16 s
  | .checkF64x2 => Sys2Proof.Machine.execCheckF64x2 s
  | .checkF32x4 => Sys2Proof.Machine.execCheckF32x4 s
  | .checkI32x4 => Sys2Proof.Machine.execCheckI32x4 s
  | .checkI16x8 => Sys2Proof.Machine.execCheckI16x8 s
  | .checkI8x16 => Sys2Proof.Machine.execCheckI8x16 s
  | .checkM64x2 => Sys2Proof.Machine.execCheckM64x2 s
  | .checkM32x4 => Sys2Proof.Machine.execCheckM32x4 s
  | .checkM16x8 => Sys2Proof.Machine.execCheckM16x8 s
  | .checkM8x16 => Sys2Proof.Machine.execCheckM8x16 s

end Sys2Proof.Machine
end

