-- ==== Sys2Proof/Machine/Step.lean ====
section
/-! DEFINITION. One step of the block: reset, issue or idle, chosen by the inputs of the step
(70_reset_and_hazards.md R192), after which the host presents the inputs of its next step. -/
namespace Sys2Proof.Machine

/-- A step (70_reset_and_hazards.md R190, R192; 40_issue_and_check.md R80, R81). A reserved word raises IllegalOp
(30_encoding.md R70). -/
def step (s : State) : Host.Outcome State Fault Refusal :=
  if s.ports.reset then .next s.resetStep.present
  else if s.ports.opValid then
    match s.fetch with
    | .error _ => .next (s.raiseError .illegalOp).present
    | .ok i =>
      match exec i s with
      | .next t => .next t.present
      | .fault r => .fault r
      | .refused r => .refused r
  else .next s.idleStep.present

/-- The host drives RESET = 0, OP_VALID = 1 and the word on port OP in the next step (70_reset_and_hazards.md R197,
log 7). Every other port, the result register and the host's later steps are as they were. -/
def State.withFetchWord (s : State) (nbits w : Nat) : State :=
  { s with ports := { s.ports with reset := false, opValid := true, op := BitVec.ofNat 32 (w % 2 ^ nbits) } }

end Sys2Proof.Machine
end

