-- ==== Sys2Proof/Machine/Platform.lean ====
section
/-! DEFINITION. A platform of `N_UNITS` instances of the block (60_exceptions.md R182, 20_memory.md R45). Instances share
no state and do not communicate; each steps on its own clock. -/
namespace Sys2Proof.Machine

/-- A platform after reset: `N_UNITS` blocks (00_scope.md R5, log 6). -/
def platformReset : List State := List.replicate Config.nUnits State.reset

/-- One clock period of instance `k` alone (60_exceptions.md R182). -/
def platformStep (units : List State) (k : Nat) : List State :=
  match units[k]? with
  | none => units
  | some s =>
    match step s with
    | .next t => units.set k t
    | .fault _ => units
    | .refused _ => units

end Sys2Proof.Machine
end

