-- ==== Sys2Proof/Machine/HostAgent.lean ====
section
/-! DEFINITION. What the spec says the host does outside the block: making values (00_scope.md R4(b), 10_state.md R22),
making the index word (30_encoding.md R68, R69) and its pseudo-operations (R74), and moving values to and from flat
buffers (20_memory.md R46 to R51). None of it is a step of the block, which performs no buffer access (R42); 00_scope.md
R4(a) keeps these contracts so that programs can be written. A buffer is of one element kind and holds the lane patterns
of its elements (20_memory.md R46). -/
namespace Sys2Proof.Machine

/-- A numeric shape (NUM, 10_state.md R21). -/
def isNumeric : Shape → Bool
  | .f64x2 | .f32x4 | .i32x4 | .i16x8 | .i8x16 => true
  | .m64x2 | .m32x4 | .m16x8 | .m8x16 => false

/-- A value of a shape from its lanes (00_scope.md R4(b)). -/
def valueOfLanes (sh : Shape) (f : Nat → BitVec (shapeWidth sh)) : Value :=
  ⟨Shape.tag sh, vec (shapeWidth sh) f (shapeLanes sh)⟩

/-- `splat`: every lane holds the same pattern (00_scope.md R4(b)). -/
def splat (sh : Shape) (x : BitVec (shapeWidth sh)) : Value := valueOfLanes sh fun _ => x

/-- An index argument of the source, a JavaScript number: an integer, or a value that is none (a fraction, an infinity,
NaN) (30_encoding.md R69). -/
inductive IndexArg where
  | int (n : Int)
  | notInteger
deriving DecidableEq, Repr

/-- The index byte the host writes: the index if it is an integer in 0 to 255, else `0xFF` (30_encoding.md R69). -/
def encodeIndex : IndexArg → Byte
  | .int n => if 0 ≤ n ∧ n ≤ 255 then BitVec.ofInt 8 n else 0xFF#8
  | .notInteger => 0xFF#8

/-- The index word of a list of index bytes, entry `k` at byte `k`, unused bytes zero (30_encoding.md R68, R73). -/
def indexWord (bytes : List Byte) : Data := vec 8 (fun k => bytes.getD k 0#8) 16

/-- The index word the host builds from the source's index arguments (30_encoding.md R69). -/
def encodeIndices (args : List IndexArg) : Data := indexWord (args.map encodeIndex)

/-- What the host issues for a pseudo-operation: the word's instruction and its index word (30_encoding.md R74). -/
structure Expansion where
  instr : Instr
  idx : Data
deriving DecidableEq, Repr

/-- `SWIZZLE.s` (30_encoding.md R63). -/
def swizzleInstr (sh : Shape) : Instr :=
  pickAll sh .swizzleF64x2 .swizzleF32x4 .swizzleI32x4 .swizzleI16x8 .swizzleI8x16 .swizzleM64x2 .swizzleM32x4
    .swizzleM16x8 .swizzleM8x16

/-- `SHUFFLE.s` (30_encoding.md R63). -/
def shuffleInstr (sh : Shape) : Instr :=
  pickAll sh .shuffleF64x2 .shuffleF32x4 .shuffleI32x4 .shuffleI16x8 .shuffleI8x16 .shuffleM64x2 .shuffleM32x4
    .shuffleM16x8 .shuffleM8x16

/-- The index word whose byte `k` is `f k` for each lane `k` of the shape. -/
def lanesIndex (sh : Shape) (f : Nat → Nat) : Data :=
  indexWord ((List.range (shapeLanes sh)).map fun k => BitVec.ofNat 8 (f k))

/-- `MOV.s a` (30_encoding.md R74). -/
def pseudoMov (sh : Shape) : Expansion := ⟨swizzleInstr sh, lanesIndex sh fun k => k⟩

/-- `BCAST.s a, j`, for `j` below the lane count (30_encoding.md R74). -/
def pseudoBcast (sh : Shape) (j : Nat) : Expansion := ⟨swizzleInstr sh, lanesIndex sh fun _ => j⟩

/-- `REV.s a` (30_encoding.md R74). -/
def pseudoRev (sh : Shape) : Expansion := ⟨swizzleInstr sh, lanesIndex sh fun k => shapeLanes sh - 1 - k⟩

/-- `ZIPLO.s a, b` (30_encoding.md R74). -/
def pseudoZiplo (sh : Shape) : Expansion :=
  ⟨shuffleInstr sh, lanesIndex sh fun k => if k % 2 = 0 then k / 2 else shapeLanes sh + k / 2⟩

/-- The element kinds of the source: float64, float32, int32, int16 and int8 (00_scope.md, glossary). -/
inductive ElementKind where
  | float64
  | float32
  | int32
  | int16
  | int8
deriving DecidableEq, Repr

/-- The element kind of a shape; a mask shape has none, and no transfers (20_memory.md R46). -/
def elementKind : Shape → Option ElementKind
  | .f64x2 => some .float64
  | .f32x4 => some .float32
  | .i32x4 => some .int32
  | .i16x8 => some .int16
  | .i8x16 => some .int8
  | .m64x2 | .m32x4 | .m16x8 | .m8x16 => none

/-- A host buffer: numeric elements of one kind, each held as its lane pattern, element 0 first (20_memory.md R46).
Buffers of two kinds differ also where their elements have one width. -/
inductive Buffer where
  | float64 (elems : List (BitVec 64))
  | float32 (elems : List (BitVec 32))
  | int32 (elems : List (BitVec 32))
  | int16 (elems : List (BitVec 16))
  | int8 (elems : List (BitVec 8))
deriving DecidableEq, Repr

/-- The kind of a buffer's elements (20_memory.md R46). -/
def Buffer.kind : Buffer → ElementKind
  | .float64 _ => .float64
  | .float32 _ => .float32
  | .int32 _ => .int32
  | .int16 _ => .int16
  | .int8 _ => .int8

/-- The elements of a buffer as lane patterns of a shape; none if the buffer is of another kind than the shape, or the
shape is a mask's (20_memory.md R46). -/
def Buffer.elems (sh : Shape) (buf : Buffer) : Option (List (BitVec (shapeWidth sh))) :=
  match sh, buf with
  | .f64x2, .float64 l => some l
  | .f32x4, .float32 l => some l
  | .i32x4, .int32 l => some l
  | .i16x8, .int16 l => some l
  | .i8x16, .int8 l => some l
  | _, _ => none

/-- The buffer of a shape's kind with the given elements; a mask shape has no kind, and the buffer stays. -/
def Buffer.withElems (sh : Shape) (l : List (BitVec (shapeWidth sh))) (buf : Buffer) : Buffer :=
  match sh with
  | .f64x2 => .float64 l
  | .f32x4 => .float32 l
  | .i32x4 => .int32 l
  | .i16x8 => .int16 l
  | .i8x16 => .int8 l
  | .m64x2 | .m32x4 | .m16x8 | .m8x16 => buf

/-- How a host transfer ends without moving an element. -/
inductive TransferError where
  /-- the access exceeds the buffer, or the index is negative or no integer (20_memory.md R47 to R51); safe: the spec
  says the host raises it -/
  | rangeError
  /-- no legal call: a buffer of another element kind, a mask shape, a value of another shape, or a prefix that is not
  below the lane count (20_memory.md R46, R48, R50; 93_implementation_defined.md I13); safe -/
  | notACall
deriving DecidableEq, Repr

/-- `validIndex(index)`: an integer at or above 0, here with its value (20_memory.md R51). -/
def validIndex : IndexArg → Option Nat
  | .int n => if 0 ≤ n then some n.toNat else none
  | .notInteger => none

/-- The bounds check of a transfer of `n` elements: the start index, or RangeError (20_memory.md R47 to R51). -/
def checkBounds (index : IndexArg) (n len : Nat) : Except TransferError Nat :=
  match validIndex index with
  | none => .error .rangeError
  | some i => if len < i + n then .error .rangeError else .ok i

/-- Reading `n` elements from `index`: lane `k` is `buf[index + k]` for `k < n`, and zero from `n` on; a buffer of
another element kind is no legal argument (20_memory.md R46, R47, R48). -/
def loadLanes (sh : Shape) (n : Nat) (buf : Buffer) (index : IndexArg) : Except TransferError Value :=
  match buf.elems sh with
  | none => .error .notACall
  | some l =>
    match checkBounds index n l.length with
    | .error e => .error e
    | .ok i => .ok (valueOfLanes sh fun k => if k < n then l.getD (i + k) 0 else 0)

/-- LOAD (20_memory.md R47). -/
def hostLoad (sh : Shape) (buf : Buffer) (index : IndexArg) : Except TransferError Value :=
  loadLanes sh (shapeLanes sh) buf index

/-- The prefix transfers that exist: of 1, 2 or 3 lanes, fewer than the shape has (20_memory.md R48, R50). -/
def prefixExists (sh : Shape) (n : Nat) : Bool := decide (1 ≤ n ∧ n ≤ 3 ∧ n < shapeLanes sh)

/-- LOAD1, LOAD2 and LOAD3, `n` being 1, 2 or 3 (20_memory.md R48). -/
def hostLoadPrefix (sh : Shape) (n : Nat) (buf : Buffer) (index : IndexArg) : Except TransferError Value :=
  if prefixExists sh n then loadLanes sh n buf index else .error .notACall

/-- Overwriting `n` elements from `i` on by the values of `f`, the others unchanged. -/
def overwrite {α : Type} (buf : List α) (i : Nat) (f : Nat → α) : Nat → List α
  | 0 => buf
  | n + 1 => (overwrite buf i f n).set (i + n) (f n)

/-- Writing `n` lanes of a value to `index` on; on an error nothing is written (20_memory.md R49, R50). A buffer of
another element kind, or a value of another shape, is no legal argument (R46). -/
def storeLanes (sh : Shape) (n : Nat) (buf : Buffer) (index : IndexArg) (v : Value) : Except TransferError Buffer :=
  match buf.elems sh with
  | none => .error .notACall
  | some l =>
    if v.tag = Shape.tag sh then
      match checkBounds index n l.length with
      | .error e => .error e
      | .ok i => .ok (buf.withElems sh (overwrite l i (fun k => lane (shapeWidth sh) v.data k) n))
    else .error .notACall

/-- STORE (20_memory.md R49). -/
def hostStore (sh : Shape) (buf : Buffer) (index : IndexArg) (v : Value) : Except TransferError Buffer :=
  storeLanes sh (shapeLanes sh) buf index v

/-- STORE1, STORE2 and STORE3 (20_memory.md R50). -/
def hostStorePrefix (sh : Shape) (n : Nat) (buf : Buffer) (index : IndexArg) (v : Value) :
    Except TransferError Buffer :=
  if prefixExists sh n then storeLanes sh n buf index v else .error .notACall

/-- An operation presented by the host: OP_VALID = 1, the word, the operands and the index word
(70_reset_and_hazards.md R197). -/
def Ports.ofIssue (op : OpWord) (a b c : Value) (idx : Data) : Ports := ⟨false, true, op, a, b, c, idx⟩

/-- A step in which the host asserts RESET (70_reset_and_hazards.md R190, R197). -/
def Ports.ofReset : Ports := { Ports.quiet with reset := true }

/-- A step in which the host leaves the block idle (40_issue_and_check.md R81, 70_reset_and_hazards.md R197). -/
def Ports.ofIdle : Ports := Ports.quiet

/-- The value a host reads from the result register and may present on an operand port of a later step
(70_reset_and_hazards.md R194). -/
def State.resValue (s : State) : Value := ⟨s.resTag, s.resData⟩

end Sys2Proof.Machine
end

