-- ==== Sys2Proof/Safety.lean ====
section
/-! DEFINITION. The terms claims are stated in: what a value is, which ports an operation reads and with which tags, what
a delivered result and an error leave, the real value of a float lane and what it is to be rounded, and the invariant of
the result register. No step stops, so a run is never unsafe by stopping; a safe run is one whose result register always
holds a value, an error or nothing (`ResultOk`). They are written from the rules and apart from the machine's own
checks. -/
namespace Sys2Proof.Machine

/-- A value: the tag is one of the nine valid ones, and if it is a mask's every lane is all ones or all zeros
(10_state.md R24; 40_issue_and_check.md R82, R83). -/
def Proper (v : Value) : Prop :=
  v.tag ∈ tagsALL ∧ (v.tag ∈ tagsMSK → ∀ i, i < tagLanes v.tag →
    lane (tagWidth v.tag) v.data i = BitVec.allOnes (tagWidth v.tag) ∨ lane (tagWidth v.tag) v.data i = 0#(tagWidth v.tag))

/-- A value of a shape (10_state.md R24; 40_issue_and_check.md R84). -/
def Holds (v : Value) (sh : Shape) : Prop := v.tag = Shape.tag sh ∧ Proper v

/-- A mask of a shape's geometry: what SELECT's port A must carry (30_encoding.md R65). -/
def HoldsMask (v : Value) (sh : Shape) : Prop := v.tag = maskOf (Shape.tag sh) ∧ Proper v

/-- Port A carries a value of the shape. -/
def ReadyA (s : State) (sh : Shape) : Prop := Holds s.ports.a sh

/-- Ports A and B carry values of the shape. -/
def ReadyAB (s : State) (sh : Shape) : Prop := Holds s.ports.a sh ∧ Holds s.ports.b sh

/-- Ports A, B and C carry values of the shape. -/
def ReadyABC (s : State) (sh : Shape) : Prop :=
  Holds s.ports.a sh ∧ Holds s.ports.b sh ∧ Holds s.ports.c sh

/-- Every index of the shape's lanes is below the limit (45_rearrange.md R150). -/
def IndicesBelow (s : State) (sh : Shape) (limit : Nat) : Prop :=
  ∀ k, k < shapeLanes sh → laneIndex s.ports.idx k < limit

/-- Lane `k` of port A's data. -/
def laneA (s : State) (sh : Shape) (k : Nat) : BitVec (shapeWidth sh) := lane (shapeWidth sh) s.ports.a.data k

/-- Lane `k` of port B's data. -/
def laneB (s : State) (sh : Shape) (k : Nat) : BitVec (shapeWidth sh) := lane (shapeWidth sh) s.ports.b.data k

/-- Lane `k` of port C's data. -/
def laneC (s : State) (sh : Shape) (k : Nat) : BitVec (shapeWidth sh) := lane (shapeWidth sh) s.ports.c.data k

/-- Lane `k` of the result register's data. -/
def resLane (t : State) (sh : Shape) (k : Nat) : BitVec (shapeWidth sh) := lane (shapeWidth sh) t.resData k

/-- The tag each read port must carry, in the order A, B, C; `none` where no tag is required (30_encoding.md R65,
40_issue_and_check.md R84, R85). Its length is the number of ports read. -/
def requiredTags (i : Instr) : List (Option Tag) :=
  let tag := Shape.tag (Instr.shape i)
  match Instr.opc i with
  | .add | .sub | .mul | .div | .min | .max | .minnum | .maxnum => [some tag, some tag]
  | .abs | .neg | .sqrt | .rcpa | .rsqa => [some tag]
  | .clamp => [some tag, some tag, some tag]
  | .and | .or | .xor => [some tag, some tag]
  | .not => [some tag]
  | .lt | .le | .eq | .ne | .gt | .ge => [some tag, some tag]
  | .swizzle => [some tag]
  | .shuffle => [some tag, some tag]
  | .select => [some (maskOf tag), some tag, some tag]
  | .bitselect => [none, some tag, some tag]
  | .cvt | .bitcast => [(Instr.source i).map Shape.tag]
  | .check => [none]

/-- The ports an operation reads with the tags they must carry (30_encoding.md R65). -/
def portsRead (i : Instr) (s : State) : List ReadPort :=
  List.zipWith ReadPort.mk [s.ports.a, s.ports.b, s.ports.c] (requiredTags i)

/-- The result tag of a successful operation (30_encoding.md R65, R66). -/
def resultTag (i : Instr) : Tag :=
  match Instr.opc i with
  | .lt | .le | .eq | .ne | .gt | .ge => maskOf (Shape.tag (Instr.shape i))
  | .add | .sub | .mul | .div | .abs | .neg | .min | .max | .minnum | .maxnum | .clamp | .sqrt | .rcpa | .rsqa
  | .and | .or | .xor | .not | .swizzle | .shuffle | .select | .bitselect | .cvt | .bitcast | .check =>
    Shape.tag (Instr.shape i)

/-- The bound its indices must be below, for the two operations that read `IDX` (45_rearrange.md R150). -/
def indexLimit (i : Instr) : Option Nat :=
  match Instr.opc i with
  | .swizzle => some (shapeLanes (Instr.shape i))
  | .shuffle => some (2 * shapeLanes (Instr.shape i))
  | .add | .sub | .mul | .div | .abs | .neg | .min | .max | .minnum | .maxnum | .clamp | .sqrt | .rcpa | .rsqa
  | .and | .or | .xor | .not | .lt | .le | .eq | .ne | .gt | .ge | .select | .bitselect | .cvt | .bitcast
  | .check => none

/-- TypeMismatch: a read port carries no value, or CHECK's port A carries a value of another shape
(60_exceptions.md R171 (a)). -/
def TypeMismatchHolds (i : Instr) (s : State) : Prop :=
  (∃ p ∈ portsRead i s, ¬ Proper p.value) ∨
    (Instr.opc i = .check ∧ s.ports.a.tag ≠ Shape.tag (Instr.shape i))

/-- ShapeMismatch: a read port carries a valid tag other than the one it must carry (60_exceptions.md R171 (b)). -/
def ShapeMismatchHolds (i : Instr) (s : State) : Prop :=
  ∃ p ∈ portsRead i s, p.value.tag ∈ tagsALL ∧ ∃ t, p.required = some t ∧ p.value.tag ≠ t

/-- RangeError: an index of the operation's lanes is at or above its bound (60_exceptions.md R171 (c)). -/
def RangeErrorHolds (i : Instr) (s : State) : Prop :=
  ∃ limit, indexLimit i = some limit ∧ ∃ k, k < shapeLanes (Instr.shape i) ∧ limit ≤ laneIndex s.ports.idx k

/-- The inputs of the step are as they were: nothing but the result register was written
(40_issue_and_check.md R86). -/
def SameInputs (s t : State) : Prop := t.ports = s.ports ∧ t.pending = s.pending

/-- A result of a tag was delivered and nothing but the result register was written (40_issue_and_check.md R80, R86). -/
def Delivered (s t : State) (tag : Tag) : Prop :=
  t.resValid = true ∧ t.resTag = tag ∧ t.resErr = 0#3 ∧ SameInputs s t

/-- What an error of a code leaves (60_exceptions.md R173, 40_issue_and_check.md R86). -/
def Raised (s t : State) (code : ErrCode) : Prop :=
  t.resValid = true ∧ t.resTag = 0x0#4 ∧ t.resData = 0#128 ∧ t.resErr = code ∧ SameInputs s t

/-- The instruction answers a next state: a delivered result of the shape whose lane `k` is `f k`, with nothing but the
result register written. -/
def DeliversLanes (i : Instr) (s : State) (sh : Shape) (f : Nat → BitVec (shapeWidth sh)) : Prop :=
  ∃ t, exec i s = .next t ∧ Delivered s t (Shape.tag sh) ∧ ∀ k, k < shapeLanes sh → resLane t sh k = f k

/-- The instruction answers a next state: a delivered result of the shape whose data word is `d`, with nothing but the
result register written. -/
def DeliversData (i : Instr) (s : State) (sh : Shape) (d : Data) : Prop :=
  ∃ t, exec i s = .next t ∧ Delivered s t (Shape.tag sh) ∧ t.resData = d

/-- The instruction answers a next state: a delivered mask of the shape's geometry whose lane `k` is all ones where
`P k` holds and all zeros where it does not, with nothing but the result register written (44_compare.md R141). -/
def DeliversMask (i : Instr) (s : State) (sh : Shape) (P : Nat → Prop) : Prop :=
  ∃ t, exec i s = .next t ∧ Delivered s t (maskOf (Shape.tag sh)) ∧ ∀ k, k < shapeLanes sh →
    (P k → resLane t sh k = BitVec.allOnes (shapeWidth sh)) ∧ (¬ P k → resLane t sh k = 0#(shapeWidth sh))

/-- The instruction answers a next state that is the error of the code. -/
def RaisesCode (i : Instr) (s : State) (code : ErrCode) : Prop := ∃ t, exec i s = .next t ∧ Raised s t code

/-- The result register holds nothing, an error, or a value: NONE comes with zeros and a code up to 4, and a value with
code 0 (10_state.md R23, R24; 60_exceptions.md R170, R173). -/
def ResultOk (s : State) : Prop :=
  (s.resTag = 0x0#4 ∧ s.resData = 0#128 ∧ s.resErr.toNat ≤ 4) ∨ (Proper ⟨s.resTag, s.resData⟩ ∧ s.resErr = 0#3)

/-- The four fields of the result register agree. -/
def SameResult (s t : State) : Prop :=
  s.resValid = t.resValid ∧ s.resTag = t.resTag ∧ s.resData = t.resData ∧ s.resErr = t.resErr

/-! The real value of a float lane, as a rational number. -/

/-- The two float formats with their lane widths (00_scope.md R9). -/
def floatFormats : List (FloatFormat × Nat) := [(binary32, 32), (binary64, 64)]

/-- The value of a finite pattern as a rational number; 0, and not used, for a NaN or an infinity
(00_scope.md R9). -/
def ratOf (fmt : FloatFormat) : FloatVal → ℚ
  | .nan => 0
  | .inf _ => 0
  | .fin s m => (signedMag s m : ℚ) / 2 ^ unitExp fmt

/-- The value of a pattern that is no NaN among the rationals with two infinities; not used for a NaN
(00_scope.md R9, 44_compare.md R140). -/
def extOf (fmt : FloatFormat) : FloatVal → WithBot (WithTop ℚ)
  | .nan => ⊥
  | .inf s => if s then ⊥ else ((⊤ : WithTop ℚ) : WithBot (WithTop ℚ))
  | .fin s m => ((ratOf fmt (.fin s m) : WithTop ℚ) : WithBot (WithTop ℚ))

/-- The pattern is finite (00_scope.md R9). -/
def IsFinite (fmt : FloatFormat) {w : Nat} (x : BitVec w) : Prop := ∃ s m, fval fmt x = .fin s m

/-- The exponent of the largest binade, 127 and 1023 (00_scope.md R9). -/
def maxExp (fmt : FloatFormat) : Nat := 2 ^ (fmt.expBits - 1) - 1

/-- `MAXF_w = (2 - 2^-fracBits) * 2^maxExp` (00_scope.md R9). -/
def maxFinite (fmt : FloatFormat) : ℚ := (2 - 1 / 2 ^ fmt.fracBits) * 2 ^ maxExp fmt

/-- `MINNORM_w = 2^-126` and `2^-1022` (00_scope.md R9). -/
def minNormal (fmt : FloatFormat) : ℚ := 1 / 2 ^ (maxExp fmt - 1)

/-- The least magnitude that rounds beyond `MAXF_w`: half a unit in the last place above it (00_scope.md R10). -/
def overflowBound (fmt : FloatFormat) : ℚ := maxFinite fmt + 2 ^ maxExp fmt / 2 ^ (fmt.fracBits + 1)

/-- `x` is at least as near to `exact` as `y`, and if they are different and equally near the pattern `p` of `x` is
even. -/
def NearerOrEven (p : Nat) (x y exact : ℚ) : Prop :=
  |x - exact| ≤ |y - exact| ∧ (|x - exact| = |y - exact| → x ≠ y → p % 2 = 0)

/-- `r` is `round_w(exact)` (00_scope.md R10): below the overflow bound the finite value nearest to the exact one, with
gradual underflow, a tie going to the even pattern; from it on the infinity of its sign; and a non-zero exact value
gives its sign. -/
def RoundedTo (fmt : FloatFormat) {w : Nat} (exact : ℚ) (r : BitVec w) : Prop :=
  (|exact| < overflowBound fmt → IsFinite fmt r ∧
    ∀ y : BitVec w, IsFinite fmt y → NearerOrEven r.toNat (ratOf fmt (fval fmt r)) (ratOf fmt (fval fmt y)) exact) ∧
  (overflowBound fmt ≤ |exact| → r = infinity fmt w (decide (exact < 0))) ∧
  (exact < 0 → r.msb = true) ∧ (0 < exact → r.msb = false)

/-- The constraint of 42_arithmetic.md R114 on the result `r` of RCPA for the operand lane `a`. -/
def RcpConforms (fmt : FloatFormat) {w : Nat} (a r : BitVec w) : Prop :=
  (fval fmt a = .nan → r = cnan fmt w) ∧
  (∀ s, fval fmt a = .fin s 0 → r = infinity fmt w s) ∧
  (∀ s, fval fmt a = .inf s → r = signedZero fmt w s) ∧
  (∀ s m, fval fmt a = .fin s m → m ≠ 0 →
    let q := 1 / ratOf fmt (fval fmt a)
    fval fmt r ≠ .nan ∧ r.msb = s ∧
      ((IsFinite fmt r ∧ |ratOf fmt (fval fmt r) - q| ≤ 1 / 2 ^ 12 * |q|) ∨
       (|q| < minNormal fmt ∧ IsFinite fmt r ∧ |ratOf fmt (fval fmt r)| ≤ minNormal fmt) ∨
       (overflowBound fmt ≤ |q| ∧ fval fmt r = .inf s)))

/-- The constraint of 42_arithmetic.md R115 on the result `r` of RSQA for the operand lane `a`. -/
def RsqrtConforms (fmt : FloatFormat) {w : Nat} (a r : BitVec w) : Prop :=
  (fval fmt a = .nan → r = cnan fmt w) ∧
  (∀ s, fval fmt a = .fin s 0 → r = infinity fmt w s) ∧
  (∀ m, fval fmt a = .fin true m → m ≠ 0 → r = cnan fmt w) ∧
  (fval fmt a = .inf true → r = cnan fmt w) ∧
  (fval fmt a = .inf false → r = signedZero fmt w false) ∧
  (∀ m, fval fmt a = .fin false m → m ≠ 0 → ∃ n, fval fmt r = .fin false n ∧ 0 < n ∧
    |((ratOf fmt (fval fmt r) : ℚ) : ℝ) - 1 / Real.sqrt ((ratOf fmt (fval fmt a) : ℚ) : ℝ)| ≤
      1 / 2 ^ 12 * (1 / Real.sqrt ((ratOf fmt (fval fmt a) : ℚ) : ℝ)))

end Sys2Proof.Machine
end

