-- ==== Sys2Proof/Certificates/Slice0/Obligations.lean ====
section
/-! DEFINITION. The statements for the provers. Instructions are named by constructor in each statement about a result;
the terms are those of Safety.lean. -/

open Sys2Proof Sys2Proof.Machine

/-- In State.reset RES_VALID is 0, RES_TAG is NONE (0x0), RES_DATA is all zeros and RES_ERR is 0. (10_state.md R23 (its
reset values)) -/
def Obligations.ResetStateHoldsResetValues : Prop :=
  State.reset.resValid = false ∧ State.reset.resTag = 0x0#4 ∧ State.reset.resData = 0#128 ∧ State.reset.resErr = 0#3

/-- For every state with RESET = 1 (power-up contents, OP_VALID and every other input arbitrary), step answers a next
state whose RES_VALID is 0, RES_TAG is NONE, RES_DATA is all zeros and RES_ERR is 0. The result does not depend on
the state, so the other inputs are ignored, an operation word presented with RESET raises nothing, and repeating
RESET has the effect of one. (R190) -/
def Obligations.ResetStepWritesResetValues : Prop :=
  ∀ s : State, s.ports.reset = true → ∃ t, step s = .next t ∧
    t.resValid = false ∧ t.resTag = 0x0#4 ∧ t.resData = 0#128 ∧ t.resErr = 0#3

/-- For every state with RESET = 0 and OP_VALID = 0 (whatever OP, A, B, C and IDX carry), step answers a next state with
RES_VALID = 0 and RES_TAG, RES_DATA and RES_ERR as before. (R81) -/
def Obligations.IdleStepClearsOnlyValid : Prop :=
  ∀ s : State, s.ports.reset = false → s.ports.opValid = false → ∃ t, step s = .next t ∧
    t.resValid = false ∧ t.resTag = s.resTag ∧ t.resData = s.resData ∧ t.resErr = s.resErr

/-- For every state with RESET = 0, OP_VALID = 1 and a word that decodes to instruction i: if exec of i answers t, step
answers a next state whose result register is that of t and whose inputs are the next the host has pending in t (the
ports stay as they are in t when nothing is pending: the model's choice, logs 1 and 3). exec always answers a next
state, so nothing else can happen. (40_issue_and_check.md R80, 30_encoding.md R64) -/
def Obligations.StepRunsDecodedInstruction : Prop :=
  ∀ (s : State) (i : Instr), s.ports.reset = false → s.ports.opValid = true → decodeWord s.ports.op = .ok i →
    ∃ t u, exec i s = .next t ∧ step s = .next u ∧ SameResult t u ∧
      (∀ p ps, t.pending = p :: ps → u.ports = p ∧ u.pending = ps) ∧
      (t.pending = [] → u.ports = t.ports ∧ u.pending = [])

/-- For every state, also one no run reaches, step answers a next state: the block never refuses, stalls or traps (R193,
R175). (70_reset_and_hazards.md R193, 40_issue_and_check.md R80, 60_exceptions.md R175) -/
def Obligations.EveryStepAnswersNext : Prop :=
  ∀ s : State, ∃ t, step s = .next t

/-- Whatever step answers, its ports are the head of the pending host steps and its pending list the tail; with nothing
pending ports and list are unchanged. No step of any kind writes an input port otherwise. How the host's inputs are
held is the model's own choice (logs 1 and 3); that no operation writes a port is R86. (70_reset_and_hazards.md
R197, 40_issue_and_check.md R86) -/
def Obligations.StepTakesHostInputsInOrder : Prop :=
  ∀ s t : State, step s = .next t →
    (∀ p ps, s.pending = p :: ps → t.ports = p ∧ t.pending = ps) ∧
    (s.pending = [] → t.ports = s.ports ∧ t.pending = [])

/-- For every state with RESET = 0, OP_VALID = 1 and a word that R64 (transcribed as legalWord, apart from the decoder)
does not call legal, whatever the operands are, step answers a next state with RES_VALID = 1, RES_TAG = NONE,
RES_DATA = 0 and RES_ERR = 4. (R70) -/
def Obligations.ReservedWordRaisesIllegalOp : Prop :=
  ∀ s : State, s.ports.reset = false → s.ports.opValid = true → legalWord s.ports.op = false →
    ∃ t, step s = .next t ∧ t.resValid = true ∧ t.resTag = 0x0#4 ∧ t.resData = 0#128 ∧ t.resErr = 4#3

/-- For every host program that starts at power-up: if its first step asserts RESET or issues a word, the result
register after it is the same as from the state after reset with the same inputs. The power-up fields are opaque
constants, so this holds for every draw of them. (10_state.md R30, 70_reset_and_hazards.md R191) -/
def Obligations.PowerUpContentsNeverShowAfterIssue : Prop :=
  ∀ (p : Ports) (ps : List Ports), p.reset = true ∨ p.opValid = true →
    ∃ t u, step (State.powerUp p ps) = .next t ∧ step { State.reset with ports := p, pending := ps } = .next u ∧ t = u

/-- For every 32-bit word, decodeWord gives an instruction if and only if bits 17..0 are zero, OPC is listed, SHAPE is
in its set, and SSHAPE is numeric for CVT and BITCAST and 0x0 otherwise (legalWord, transcribed from R63 and R64).
(30_encoding.md R63, 30_encoding.md R64) -/
def Obligations.DecodeSucceedsExactlyOnLegalWords : Prop :=
  ∀ w : OpWord, (∃ i, decodeWord w = .ok i) ↔ legalWord w = true

/-- There is a list of 212 different words such that a word is legal by R64 if and only if it is in the list.
(30_encoding.md R64) -/
def Obligations.LegalWordsAre212 : Prop :=
  ∃ l : List OpWord, l.Nodup ∧ l.length = 212 ∧ ∀ w, w ∈ l ↔ legalWord w = true

/-- For every instruction i and every 32-bit word w, w decodes to i if and only if w is the word encode writes for i. So
encode is read back by the decoder for all 212 instructions and no other word decodes to any of them.
(30_encoding.md R60, 30_encoding.md R62, 30_encoding.md R64) -/
def Obligations.DecodeEncodeAgree : Prop :=
  ∀ (i : Instr) (w : OpWord), decodeWord w = .ok i ↔ w = encode i

/-- 0x02400000 is ADD.I32x4, 0x29400000 CLAMP.F32x4, 0x61000000 LT.F64x2, 0x82400000 SWIZZLE.I32x4, 0x85400000
SHUFFLE.F32x4, 0x92800000 SELECT.I16x8, 0xA1640000 CVT.F32x4.I32x4, 0xA6540000 BITCAST.I32x4.F32x4, 0xB3C00000
CHECK.M8x16, and from section 7 0x43400000 AND.M32x4. (30_encoding.md R73, 30_encoding.md section 7) -/
def Obligations.ListedWordsDecode : Prop :=
  decodeTableWord 32 0x02400000 = some .addI32x4 ∧ decodeTableWord 32 0x29400000 = some .clampF32x4 ∧
    decodeTableWord 32 0x61000000 = some .ltF64x2 ∧ decodeTableWord 32 0x82400000 = some .swizzleI32x4 ∧
    decodeTableWord 32 0x85400000 = some .shuffleF32x4 ∧ decodeTableWord 32 0x92800000 = some .selectI16x8 ∧
    decodeTableWord 32 0xA1640000 = some .cvtF32x4I32x4 ∧ decodeTableWord 32 0xA6540000 = some .bitcastI32x4F32x4 ∧
    decodeTableWord 32 0xB3C00000 = some .checkM8x16 ∧ decodeTableWord 32 0x43400000 = some .andM32x4

/-- For every issue (RESET = 0, OP_VALID = 1) step answers a next state whose RES_ERR is 4 if the word decodes to no
instruction; else, for the decoded instruction, 1 if a read port carries no value of any shape or CHECK's operand
has another shape; else 2 if a read port carries another tag than it must; else 3 if an index of its lanes is out of
range; else 0. The conditions are R171 (a) to (d) written from R65, R82 to R85 and R150. (60_exceptions.md R170,
60_exceptions.md R171, 60_exceptions.md R172) -/
def Obligations.ErrorCodeFollowsPriority : Prop :=
  ∀ s : State, s.ports.reset = false → s.ports.opValid = true → ∃ t, step s = .next t ∧
    (legalWord s.ports.op = false → t.resErr = 4#3) ∧
    ∀ i, decodeWord s.ports.op = .ok i →
      (TypeMismatchHolds i s → t.resErr = 1#3) ∧
      (¬ TypeMismatchHolds i s → ShapeMismatchHolds i s → t.resErr = 2#3) ∧
      (¬ TypeMismatchHolds i s → ¬ ShapeMismatchHolds i s → RangeErrorHolds i s → t.resErr = 3#3) ∧
      (¬ TypeMismatchHolds i s → ¬ ShapeMismatchHolds i s → ¬ RangeErrorHolds i s → t.resErr = 0#3)

/-- For every instruction i and state s where a port i reads carries an invalid tag or a malformed mask, or i is CHECK
and port A has another tag than SHAPE, exec answers the error state: RES_VALID 1, RES_TAG NONE, RES_DATA 0, RES_ERR
1, ports and pending unchanged. It takes priority over a wrong tag and a bad index, since nothing is assumed of
them. (40_issue_and_check.md R82, 40_issue_and_check.md R83, 40_issue_and_check.md R85, 60_exceptions.md R173) -/
def Obligations.TypeMismatchLeavesNoneAndZero : Prop :=
  ∀ (i : Instr) (s : State), TypeMismatchHolds i s → RaisesCode i s 1#3

/-- For every instruction i and state s where no TypeMismatch condition holds and some port i reads carries a valid tag
other than the tag R65 requires of it, exec answers the error state with RES_ERR 2 (whatever the indices are).
BITSELECT's and CHECK's port A require no tag. (40_issue_and_check.md R84, 30_encoding.md R65, 60_exceptions.md
R173) -/
def Obligations.ShapeMismatchLeavesNoneAndZero : Prop :=
  ∀ (i : Instr) (s : State), ¬ TypeMismatchHolds i s → ShapeMismatchHolds i s → RaisesCode i s 2#3

/-- For every SWIZZLE and SHUFFLE (the instructions with an index limit: N for SWIZZLE, 2N for SHUFFLE) and state with
correct operands, if some index byte of lanes 0 to N-1 is at or above the limit, exec answers the error state with
RES_ERR 3, tag NONE and data zero. (45_rearrange.md R150, 60_exceptions.md R173) -/
def Obligations.RangeErrorLeavesNoneAndZero : Prop :=
  ∀ (i : Instr) (s : State), ¬ TypeMismatchHolds i s → ¬ ShapeMismatchHolds i s → RangeErrorHolds i s →
    RaisesCode i s 3#3

/-- For every instruction i of the 212 and every state in which none of the three operand conditions holds (read ports
carry values with the tags they must carry, CHECK's operand the shape it names, indices in range), exec answers a
next state with RES_VALID 1, RES_ERR 0, the result tag of R65 and the inputs unchanged: no data value in a lane
causes an error (R174). (40_issue_and_check.md R80, 30_encoding.md R66, 60_exceptions.md R174) -/
def Obligations.ReadyOperationDelivers : Prop :=
  ∀ (i : Instr) (s : State), ¬ TypeMismatchHolds i s → ¬ ShapeMismatchHolds i s → ¬ RangeErrorHolds i s →
    ∃ t, exec i s = .next t ∧ Delivered s t (resultTag i)

/-- For every instruction and state, whatever exec answers leaves the operand ports, IDX and the host's pending steps as
they were; and two states with the same ports get the same result register from it, whatever their result registers
held before. (R86) -/
def Obligations.OperationsWriteOnlyResultRegister : Prop :=
  ∀ (i : Instr) (s t : State), exec i s = .next t →
    SameInputs s t ∧ ∀ s' t' : State, s'.ports = s.ports → exec i s' = .next t' → SameResult t t'

/-- For two states with the same port values, RESET or OP_VALID being high, step answers next states with the same four
result fields: never on the result register, earlier operations or the host's later steps. (In an idle step the old
tag, data and code are held: another statement.) (10_state.md R29, 70_reset_and_hazards.md R194) -/
def Obligations.ResultDependsOnIssueInputsOnly : Prop :=
  ∀ s s' t t' : State, s.ports = s'.ports → (s.ports.reset = true ∨ s.ports.opValid = true) →
    step s = .next t → step s' = .next t' → SameResult t t'

/-- For every instruction and two states that agree on the ports the instruction reads (R65) and, for SWIZZLE and
SHUFFLE, on index bytes 0 to N-1, exec answers the same result register: the tag and data of an unread port, IDX of
another operation, and index bytes N to 15 have no effect on the result or any error. (R67) -/
def Obligations.UnreadPortsAreIgnored : Prop :=
  ∀ (i : Instr) (s s' t t' : State), portsRead i s = portsRead i s' →
    (indexLimit i ≠ none → ∀ k, k < shapeLanes (Instr.shape i) → laneIndex s.ports.idx k = laneIndex s'.ports.idx k) →
    exec i s = .next t → exec i s' = .next t' → SameResult t t'

/-- State.reset satisfies ResultOk: NONE with zeros and code 0. (10_state.md R23) -/
def Obligations.ResetStateResultOk : Prop :=
  ResultOk State.reset

/-- ResultOk says: either RES_TAG is NONE, RES_DATA zero and RES_ERR at most 4, or RES_ERR is 0, RES_TAG is one of the
nine valid tags and, under a mask tag, every lane is all ones or all zeros. For every state with ResultOk, whatever
step answers has ResultOk. In particular no operation produces a malformed mask (R24) and codes 5 to 7 are never
written (R170). (10_state.md R24, 60_exceptions.md R170, 60_exceptions.md R173, 44_compare.md R141, 43_bitwise.md
R134) -/
def Obligations.EveryStepKeepsResultOk : Prop :=
  ∀ s t : State, ResultOk s → step s = .next t → ResultOk t

/-- For every state, also one with arbitrary power-up contents, if RESET or OP_VALID is high then step answers a next
state that satisfies ResultOk. (10_state.md R24, 10_state.md R30, 70_reset_and_hazards.md R191) -/
def Obligations.IssueOrResetEstablishesResultOk : Prop :=
  ∀ s : State, (s.ports.reset = true ∨ s.ports.opValid = true) → ∃ t, step s = .next t ∧ ResultOk t

/-- For ADD, SUB, MUL of I32x4, I16x8 and I8x16 and every state whose ports A and B carry values of the shape, exec
answers a delivered result (RES_VALID 1, RES_ERR 0, tag SHAPE, inputs unchanged) whose lane k is the exact signed
sum, difference or product of lanes k of A and B reduced modulo 2^w. (42_arithmetic.md R101, 42_arithmetic.md R102,
42_arithmetic.md R103, 42_arithmetic.md R104) -/
def Obligations.IntegerAddSubMulLanes : Prop :=
  ∀ e ∈ [(Shape.i32x4, Instr.addI32x4, Instr.subI32x4, Instr.mulI32x4),
     (Shape.i16x8, Instr.addI16x8, Instr.subI16x8, Instr.mulI16x8),
     (Shape.i8x16, Instr.addI8x16, Instr.subI8x16, Instr.mulI8x16)],
    ∀ s : State, ReadyAB s e.1 →
      DeliversLanes e.2.1 s e.1 (fun k => BitVec.ofInt _ ((laneA s e.1 k).toInt + (laneB s e.1 k).toInt)) ∧
      DeliversLanes e.2.2.1 s e.1 (fun k => BitVec.ofInt _ ((laneA s e.1 k).toInt - (laneB s e.1 k).toInt)) ∧
      DeliversLanes e.2.2.2 s e.1 (fun k => BitVec.ofInt _ ((laneA s e.1 k).toInt * (laneB s e.1 k).toInt))

/-- For DIV.I32x4, DIV.I16x8, DIV.I8x16 and every state whose ports A and B carry values of the shape, exec answers a
delivered result whose lane k is 0 where the divisor lane is 0 and else the signed quotient truncated toward zero
and wrapped (so MIN / -1 = MIN). (42_arithmetic.md R105, 60_exceptions.md R174) -/
def Obligations.IntegerDivLanes : Prop :=
  ∀ e ∈ [(Shape.i32x4, Instr.divI32x4), (Shape.i16x8, Instr.divI16x8), (Shape.i8x16, Instr.divI8x16)],
    ∀ s : State, ReadyAB s e.1 → DeliversLanes e.2 s e.1 (fun k =>
      if (laneB s e.1 k).toInt = 0 then 0#_
      else BitVec.ofInt _ ((laneA s e.1 k).toInt.tdiv (laneB s e.1 k).toInt))

/-- For ABS and NEG of I32x4, I16x8, I8x16 and every state whose port A carries a value of the shape, exec answers a
delivered result whose lane k is the absolute value, respectively the negation, of the signed lane, reduced modulo
2^w; so a lane holding MIN_w gives MIN_w. (42_arithmetic.md R106, 42_arithmetic.md R107) -/
def Obligations.IntegerAbsNegLanes : Prop :=
  ∀ e ∈ [(Shape.i32x4, Instr.absI32x4, Instr.negI32x4), (Shape.i16x8, Instr.absI16x8, Instr.negI16x8),
     (Shape.i8x16, Instr.absI8x16, Instr.negI8x16)],
    ∀ s : State, ReadyA s e.1 →
      DeliversLanes e.2.1 s e.1 (fun k => BitVec.ofInt _ |(laneA s e.1 k).toInt|) ∧
      DeliversLanes e.2.2 s e.1 (fun k => BitVec.ofInt _ (-(laneA s e.1 k).toInt)) ∧
      ∀ k, k < shapeLanes e.1 → laneA s e.1 k = BitVec.intMin _ →
        BitVec.ofInt (shapeWidth e.1) |(laneA s e.1 k).toInt| = laneA s e.1 k

/-- For MIN and MAX of I32x4, I16x8, I8x16 with values on A and B, and CLAMP with values on A, B and C, exec answers a
delivered result whose lane has the signed value min(a, b), max(a, b), and max(min(a, c), b) (so a lower bound above
the upper wins). (42_arithmetic.md R108, 42_arithmetic.md R109, 42_arithmetic.md R112, 42_arithmetic.md R101) -/
def Obligations.IntegerMinMaxClampLanes : Prop :=
  ∀ e ∈ [(Shape.i32x4, Instr.minI32x4, Instr.maxI32x4, Instr.clampI32x4),
     (Shape.i16x8, Instr.minI16x8, Instr.maxI16x8, Instr.clampI16x8),
     (Shape.i8x16, Instr.minI8x16, Instr.maxI8x16, Instr.clampI8x16)],
    ∀ s : State,
      (ReadyAB s e.1 →
        DeliversLanes e.2.1 s e.1 (fun k => BitVec.ofInt _ (min (laneA s e.1 k).toInt (laneB s e.1 k).toInt)) ∧
        DeliversLanes e.2.2.1 s e.1 (fun k => BitVec.ofInt _ (max (laneA s e.1 k).toInt (laneB s e.1 k).toInt))) ∧
      (ReadyABC s e.1 → DeliversLanes e.2.2.2 s e.1 (fun k => BitVec.ofInt _
        (max (min (laneA s e.1 k).toInt (laneC s e.1 k).toInt) (laneB s e.1 k).toInt)))

/-- cnan of binary32 is 0x7FC00000 and of binary64 0x7FF8000000000000, and both decode as NaN. (00_scope.md R11,
00_scope.md R9) -/
def Obligations.CanonicalNaNPatterns : Prop :=
  cnan binary32 32 = 0x7FC00000#32 ∧ cnan binary64 64 = 0x7FF8000000000000#64 ∧
    fval binary32 (0x7FC00000#32) = .nan ∧ fval binary64 (0x7FF8000000000000#64) = .nan

/-- For both formats and every exact non-zero magnitude n/d units with a sign, the pattern roundUnits gives is the
finite value nearest to the exact rational, an equally near one losing to the even pattern, whenever the exact
magnitude is below MAXF plus half its last place; from there on it is the infinity of the sign; and it has the sign
of the exact value (RoundedTo). (00_scope.md R10, 00_scope.md R9) -/
def Obligations.RoundUnitsIsRoundTiesToEven : Prop :=
  ∀ f ∈ floatFormats, ∀ (neg : Bool) (n d : Nat), 0 < n → 0 < d →
    RoundedTo f.1 ((if neg then -1 else 1) * ((n : ℚ) / d) / 2 ^ unitExp f.1) (roundUnits f.1 f.2 neg n d)

/-- For both formats and all patterns a, b with finite values (for DIV, b not zero): when the exact rational sum,
difference, product or quotient is not zero, the lane operation gives a pattern that is that exact value rounded to
nearest, ties to even, with gradual underflow and overflow to infinity. (42_arithmetic.md R100, 00_scope.md R10) -/
def Obligations.FloatArithmeticIsCorrectlyRounded : Prop :=
  ∀ f ∈ floatFormats, ∀ a b : BitVec f.2, IsFinite f.1 a → IsFinite f.1 b →
    (ratOf f.1 (fval f.1 a) + ratOf f.1 (fval f.1 b) ≠ 0 →
      RoundedTo f.1 (ratOf f.1 (fval f.1 a) + ratOf f.1 (fval f.1 b)) (floatAdd f.1 a b)) ∧
    (ratOf f.1 (fval f.1 a) - ratOf f.1 (fval f.1 b) ≠ 0 →
      RoundedTo f.1 (ratOf f.1 (fval f.1 a) - ratOf f.1 (fval f.1 b)) (floatSub f.1 a b)) ∧
    (ratOf f.1 (fval f.1 a) * ratOf f.1 (fval f.1 b) ≠ 0 →
      RoundedTo f.1 (ratOf f.1 (fval f.1 a) * ratOf f.1 (fval f.1 b)) (floatMul f.1 a b)) ∧
    (ratOf f.1 (fval f.1 a) ≠ 0 → ratOf f.1 (fval f.1 b) ≠ 0 →
      RoundedTo f.1 (ratOf f.1 (fval f.1 a) / ratOf f.1 (fval f.1 b)) (floatDiv f.1 a b))

/-- For both formats and every pattern a with a finite positive value, floatSqrt gives a finite pattern with sign bit 0
that is at least as near to the real square root as every finite pattern of the format, and is even where another
finite value is equally near. (42_arithmetic.md R113, 00_scope.md R10) -/
def Obligations.SquareRootIsCorrectlyRounded : Prop :=
  ∀ f ∈ floatFormats, ∀ (a : BitVec f.2) (m : Nat), fval f.1 a = .fin false m → m ≠ 0 →
    IsFinite f.1 (floatSqrt f.1 a) ∧ (floatSqrt f.1 a).msb = false ∧ ∀ y : BitVec f.2, IsFinite f.1 y →
      |((ratOf f.1 (fval f.1 (floatSqrt f.1 a)) : ℚ) : ℝ) - Real.sqrt ((ratOf f.1 (fval f.1 a) : ℚ) : ℝ)| ≤
        |((ratOf f.1 (fval f.1 y) : ℚ) : ℝ) - Real.sqrt ((ratOf f.1 (fval f.1 a) : ℚ) : ℝ)| ∧
      (|((ratOf f.1 (fval f.1 (floatSqrt f.1 a)) : ℚ) : ℝ) - Real.sqrt ((ratOf f.1 (fval f.1 a) : ℚ) : ℝ)| =
        |((ratOf f.1 (fval f.1 y) : ℚ) : ℝ) - Real.sqrt ((ratOf f.1 (fval f.1 a) : ℚ) : ℝ)| →
        ratOf f.1 (fval f.1 (floatSqrt f.1 a)) ≠ ratOf f.1 (fval f.1 y) → (floatSqrt f.1 a).toNat % 2 = 0)

/-- For both formats and all patterns: a NaN operand gives the canonical NaN in +, -, x, / and sqrt; inf - inf, 0 x inf,
0/0, inf/inf and sqrt of a value below zero give it too; an infinity plus or minus a finite value is that infinity
(its negation when subtracted); a non-zero finite value over zero is an infinity and a finite value over an infinity
a zero, with the XOR of the signs; a product of an infinity and a non-zero value is the infinity with the XOR of the
signs; a product with a zero, and a quotient of zero, is a zero with the XOR sign; x - x is +0; zeros of one sign
add to it and of opposite signs to +0; sqrt keeps the sign of a zero and +inf. (42_arithmetic.md R100,
42_arithmetic.md R113, 00_scope.md R11) -/
def Obligations.FloatSpecialCases : Prop :=
  ∀ f ∈ floatFormats, ∀ a b : BitVec f.2,
    (isNaN f.1 a = true ∨ isNaN f.1 b = true →
      floatAdd f.1 a b = cnan f.1 f.2 ∧ floatSub f.1 a b = cnan f.1 f.2 ∧
      floatMul f.1 a b = cnan f.1 f.2 ∧ floatDiv f.1 a b = cnan f.1 f.2) ∧
    (isNaN f.1 a = true → floatSqrt f.1 a = cnan f.1 f.2) ∧
    (∀ p q, fval f.1 a = .inf p → fval f.1 b = .inf q →
      floatAdd f.1 a b = (if p = q then infinity f.1 f.2 p else cnan f.1 f.2) ∧
      floatSub f.1 a b = (if p = q then cnan f.1 f.2 else infinity f.1 f.2 p) ∧
      floatMul f.1 a b = infinity f.1 f.2 (p ^^ q) ∧ floatDiv f.1 a b = cnan f.1 f.2) ∧
    (∀ p q n, fval f.1 a = .inf p → fval f.1 b = .fin q n →
      floatAdd f.1 a b = infinity f.1 f.2 p ∧ floatSub f.1 a b = infinity f.1 f.2 p ∧
      floatMul f.1 a b = (if n = 0 then cnan f.1 f.2 else infinity f.1 f.2 (p ^^ q)) ∧
      floatDiv f.1 a b = infinity f.1 f.2 (p ^^ q)) ∧
    (∀ p q m, fval f.1 a = .fin p m → fval f.1 b = .inf q →
      floatAdd f.1 a b = infinity f.1 f.2 q ∧ floatSub f.1 a b = infinity f.1 f.2 (!q) ∧
      floatMul f.1 a b = (if m = 0 then cnan f.1 f.2 else infinity f.1 f.2 (p ^^ q)) ∧
      floatDiv f.1 a b = signedZero f.1 f.2 (p ^^ q)) ∧
    (∀ p q m n, fval f.1 a = .fin p m → fval f.1 b = .fin q n →
      (m = 0 ∨ n = 0 → floatMul f.1 a b = signedZero f.1 f.2 (p ^^ q)) ∧
      (n = 0 → floatDiv f.1 a b = if m = 0 then cnan f.1 f.2 else infinity f.1 f.2 (p ^^ q)) ∧
      (m = 0 → n ≠ 0 → floatDiv f.1 a b = signedZero f.1 f.2 (p ^^ q)) ∧
      (m = n → p = q → floatSub f.1 a b = signedZero f.1 f.2 false) ∧
      (m = n → p ≠ q → floatAdd f.1 a b = signedZero f.1 f.2 false) ∧
      (m = 0 → n = 0 → p = q → floatAdd f.1 a b = signedZero f.1 f.2 p) ∧
      (m = 0 → n = 0 → p ≠ q → floatSub f.1 a b = signedZero f.1 f.2 p)) ∧
    (∀ p m, fval f.1 a = .fin p m → (m = 0 → floatSqrt f.1 a = signedZero f.1 f.2 p) ∧
      (m ≠ 0 → p = true → floatSqrt f.1 a = cnan f.1 f.2)) ∧
    (∀ p, fval f.1 a = .inf p →
      floatSqrt f.1 a = if p then cnan f.1 f.2 else infinity f.1 f.2 false)

/-- For ADD, SUB, MUL, DIV of F64x2 and F32x4 with values on A and B, and SQRT with a value on A, exec answers a
delivered result (RES_ERR 0 whatever the lanes hold) whose lane k is fop of lanes k in the format of the shape:
binary64 for F64x2, binary32 for F32x4. What fop gives is the subject of FloatSpecialCases,
FloatArithmeticIsCorrectlyRounded and SquareRootIsCorrectlyRounded. (42_arithmetic.md R102, 42_arithmetic.md R103,
42_arithmetic.md R104, 42_arithmetic.md R105, 42_arithmetic.md R113) -/
def Obligations.FloatArithmeticLanes : Prop :=
  ∀ e ∈ [(Shape.f64x2, binary64, Instr.addF64x2, Instr.subF64x2, Instr.mulF64x2, Instr.divF64x2, Instr.sqrtF64x2),
     (Shape.f32x4, binary32, Instr.addF32x4, Instr.subF32x4, Instr.mulF32x4, Instr.divF32x4, Instr.sqrtF32x4)],
    ∀ s : State,
      (ReadyAB s e.1 →
        DeliversLanes e.2.2.1 s e.1 (fun k => floatAdd e.2.1 (laneA s e.1 k) (laneB s e.1 k)) ∧
        DeliversLanes e.2.2.2.1 s e.1 (fun k => floatSub e.2.1 (laneA s e.1 k) (laneB s e.1 k)) ∧
        DeliversLanes e.2.2.2.2.1 s e.1 (fun k => floatMul e.2.1 (laneA s e.1 k) (laneB s e.1 k)) ∧
        DeliversLanes e.2.2.2.2.2.1 s e.1 (fun k => floatDiv e.2.1 (laneA s e.1 k) (laneB s e.1 k))) ∧
      (ReadyA s e.1 → DeliversLanes e.2.2.2.2.2.2 s e.1 (fun k => floatSqrt e.2.1 (laneA s e.1 k)))

/-- For ABS and NEG of F64x2 and F32x4 and every state whose port A carries a value of the shape, exec answers a
delivered result of which bit w-1 of lane k is 0, respectively the inverted sign bit, and every lower bit is the
operand's: a NaN keeps its payload. (42_arithmetic.md R106, 42_arithmetic.md R107) -/
def Obligations.FloatAbsNegChangeOnlySign : Prop :=
  ∀ e ∈ [(Shape.f64x2, Instr.absF64x2, Instr.negF64x2), (Shape.f32x4, Instr.absF32x4, Instr.negF32x4)],
    ∀ s : State, ReadyA s e.1 →
      (∃ t, exec e.2.1 s = .next t ∧ Delivered s t (Shape.tag e.1) ∧ ∀ k, k < shapeLanes e.1 →
        ∀ j, j < shapeWidth e.1 → (resLane t e.1 k).getLsbD j =
          if j = shapeWidth e.1 - 1 then false else (laneA s e.1 k).getLsbD j) ∧
      (∃ t, exec e.2.2 s = .next t ∧ Delivered s t (Shape.tag e.1) ∧ ∀ k, k < shapeLanes e.1 →
        ∀ j, j < shapeWidth e.1 → (resLane t e.1 k).getLsbD j =
          if j = shapeWidth e.1 - 1 then !(laneA s e.1 k).getLsbD j else (laneA s e.1 k).getLsbD j)

/-- For MIN, MAX, MINNUM, MAXNUM of F64x2 and F32x4 with values on A and B, exec answers a delivered result whose lane k
is floatMin, floatMax, floatMinNum, floatMaxNum of lanes k; for CLAMP with values on A, B, C lane k is floatMax
(floatMin a c) b. The lane functions are the subject of FloatMinMaxCases. (42_arithmetic.md R108, 42_arithmetic.md
R109, 42_arithmetic.md R110, 42_arithmetic.md R111, 42_arithmetic.md R112) -/
def Obligations.FloatMinMaxLanes : Prop :=
  ∀ e ∈ [(Shape.f64x2, binary64, Instr.minF64x2, Instr.maxF64x2, Instr.minnumF64x2, Instr.maxnumF64x2, Instr.clampF64x2),
     (Shape.f32x4, binary32, Instr.minF32x4, Instr.maxF32x4, Instr.minnumF32x4, Instr.maxnumF32x4, Instr.clampF32x4)],
    ∀ s : State,
      (ReadyAB s e.1 →
        DeliversLanes e.2.2.1 s e.1 (fun k => floatMin e.2.1 (laneA s e.1 k) (laneB s e.1 k)) ∧
        DeliversLanes e.2.2.2.1 s e.1 (fun k => floatMax e.2.1 (laneA s e.1 k) (laneB s e.1 k)) ∧
        DeliversLanes e.2.2.2.2.1 s e.1 (fun k => floatMinNum e.2.1 (laneA s e.1 k) (laneB s e.1 k)) ∧
        DeliversLanes e.2.2.2.2.2.1 s e.1 (fun k => floatMaxNum e.2.1 (laneA s e.1 k) (laneB s e.1 k))) ∧
      (ReadyABC s e.1 → DeliversLanes e.2.2.2.2.2.2 s e.1 (fun k =>
        floatMax e.2.1 (floatMin e.2.1 (laneA s e.1 k) (laneC s e.1 k)) (laneB s e.1 k)))

/-- For both formats and all patterns a, b: with a NaN among them min and max are the canonical NaN; minNum and maxNum
are the other operand where exactly one is NaN, the canonical NaN where both are, and min and max where none is.
Without a NaN, with the extended real values x, y: x < y gives min a and max b, y < x gives min b and max a; two
zeros give min the one that is -0 if there is one (a if a is -0 else b) and max the one that is +0 (a if a is +0
else b); equal values that are not zeros give a. (42_arithmetic.md R108, 42_arithmetic.md R109, 42_arithmetic.md
R110, 42_arithmetic.md R111) -/
def Obligations.FloatMinMaxCases : Prop :=
  ∀ f ∈ floatFormats, ∀ a b : BitVec f.2,
    (fval f.1 a = .nan ∨ fval f.1 b = .nan → floatMin f.1 a b = cnan f.1 f.2 ∧ floatMax f.1 a b = cnan f.1 f.2) ∧
    (fval f.1 a = .nan → fval f.1 b = .nan →
      floatMinNum f.1 a b = cnan f.1 f.2 ∧ floatMaxNum f.1 a b = cnan f.1 f.2) ∧
    (fval f.1 a = .nan → fval f.1 b ≠ .nan → floatMinNum f.1 a b = b ∧ floatMaxNum f.1 a b = b) ∧
    (fval f.1 a ≠ .nan → fval f.1 b = .nan → floatMinNum f.1 a b = a ∧ floatMaxNum f.1 a b = a) ∧
    (fval f.1 a ≠ .nan → fval f.1 b ≠ .nan →
      floatMinNum f.1 a b = floatMin f.1 a b ∧ floatMaxNum f.1 a b = floatMax f.1 a b ∧
      (extOf f.1 (fval f.1 a) < extOf f.1 (fval f.1 b) → floatMin f.1 a b = a ∧ floatMax f.1 a b = b) ∧
      (extOf f.1 (fval f.1 b) < extOf f.1 (fval f.1 a) → floatMin f.1 a b = b ∧ floatMax f.1 a b = a) ∧
      (extOf f.1 (fval f.1 a) = extOf f.1 (fval f.1 b) → extOf f.1 (fval f.1 a) ≠ 0 →
        floatMin f.1 a b = a ∧ floatMax f.1 a b = a) ∧
      (extOf f.1 (fval f.1 a) = 0 → extOf f.1 (fval f.1 b) = 0 →
        floatMin f.1 a b = (if fval f.1 a = .fin true 0 then a else b) ∧
        floatMax f.1 a b = (if fval f.1 a = .fin false 0 then a else b)))

/-- For RCPA.F64x2 and RCPA.F32x4 and every state whose port A carries a value of the shape, exec answers a delivered
result of which every lane conforms to R114 for its operand lane: NaN gives the canonical NaN, a zero the infinity
of its sign, an infinity the zero of its sign; otherwise the result is no NaN, has the sign of q = 1/a, and is
within relative error 2^-12 of q, or at most MINNORM in magnitude where |q| is below it, or the infinity where q
rounds to infinity. Config.rcp32 and rcp64 are opaque, so nothing is assumed of them; that every build parameter
gives a conforming lane is the model's choice, the filter of log 4 (DESIGN CHOICE), by which an answer outside the
constraint is replaced by the correctly rounded reciprocal. (42_arithmetic.md R114, 00_scope.md R5) -/
def Obligations.RcpaConforms : Prop :=
  ∀ e ∈ [(Shape.f64x2, binary64, Instr.rcpaF64x2), (Shape.f32x4, binary32, Instr.rcpaF32x4)],
    ∀ s : State, ReadyA s e.1 → ∃ t, exec e.2.2 s = .next t ∧ Delivered s t (Shape.tag e.1) ∧
      ∀ k, k < shapeLanes e.1 → RcpConforms e.2.1 (laneA s e.1 k) (resLane t e.1 k)

/-- For RSQA.F64x2 and RSQA.F32x4 and every state whose port A carries a value of the shape, exec answers a delivered
result of which every lane conforms to R115 for its operand lane: NaN and every value below zero give the canonical
NaN, +0 and -0 the infinity of their sign, +inf gives +0; otherwise the result is positive, finite and within
relative error 2^-12 of 1/sqrt(a). Config.rsqrt32 and rsqrt64 are opaque, so nothing is assumed of them; that every
build parameter gives a conforming lane is the model's choice, the filter of log 4 (DESIGN CHOICE), by which an
answer outside the constraint is replaced by the correctly rounded value. (42_arithmetic.md R115, 00_scope.md R5) -/
def Obligations.RsqaConforms : Prop :=
  ∀ e ∈ [(Shape.f64x2, binary64, Instr.rsqaF64x2), (Shape.f32x4, binary32, Instr.rsqaF32x4)],
    ∀ s : State, ReadyA s e.1 → ∃ t, exec e.2.2 s = .next t ∧ Delivered s t (Shape.tag e.1) ∧
      ∀ k, k < shapeLanes e.1 → RsqrtConforms e.2.1 (laneA s e.1 k) (resLane t e.1 k)

/-- For both formats, every build function and every pattern: where the function conforms to R114 (R115), the lane
operation floatRcp (floatRsqrt) with that function as build parameter answers what the function answers. So the
model excludes no conforming build (log 4). (42_arithmetic.md R114, 42_arithmetic.md R115) -/
def Obligations.ConformingApproximationsAreKept : Prop :=
  ∀ f ∈ floatFormats, ∀ (g : BitVec f.2 → BitVec f.2) (a : BitVec f.2),
    (RcpConforms f.1 a (g a) → floatRcp f.1 g a = g a) ∧
    (RsqrtConforms f.1 a (g a) → floatRsqrt f.1 g a = g a)

/-- For AND, OR, XOR of each of the nine shapes with values on A and B, and NOT with a value on A, exec answers a
delivered result of tag SHAPE whose bit j, for every j below 128, is the AND, OR, XOR of bits j of the operands,
respectively the inverted bit j of A; nothing is canonicalised. (43_bitwise.md R130, 43_bitwise.md R131,
43_bitwise.md R132, 43_bitwise.md R133) -/
def Obligations.BitwiseBits : Prop :=
  ∀ e ∈ [(Shape.f64x2, Instr.andF64x2, Instr.orF64x2, Instr.xorF64x2, Instr.notF64x2),
     (Shape.f32x4, Instr.andF32x4, Instr.orF32x4, Instr.xorF32x4, Instr.notF32x4),
     (Shape.i32x4, Instr.andI32x4, Instr.orI32x4, Instr.xorI32x4, Instr.notI32x4),
     (Shape.i16x8, Instr.andI16x8, Instr.orI16x8, Instr.xorI16x8, Instr.notI16x8),
     (Shape.i8x16, Instr.andI8x16, Instr.orI8x16, Instr.xorI8x16, Instr.notI8x16),
     (Shape.m64x2, Instr.andM64x2, Instr.orM64x2, Instr.xorM64x2, Instr.notM64x2),
     (Shape.m32x4, Instr.andM32x4, Instr.orM32x4, Instr.xorM32x4, Instr.notM32x4),
     (Shape.m16x8, Instr.andM16x8, Instr.orM16x8, Instr.xorM16x8, Instr.notM16x8),
     (Shape.m8x16, Instr.andM8x16, Instr.orM8x16, Instr.xorM8x16, Instr.notM8x16)],
    ∀ s : State,
      (ReadyAB s e.1 →
        (∃ t, exec e.2.1 s = .next t ∧ Delivered s t (Shape.tag e.1) ∧ ∀ j, j < 128 →
          t.resData.getLsbD j = (s.ports.a.data.getLsbD j && s.ports.b.data.getLsbD j)) ∧
        (∃ t, exec e.2.2.1 s = .next t ∧ Delivered s t (Shape.tag e.1) ∧ ∀ j, j < 128 →
          t.resData.getLsbD j = (s.ports.a.data.getLsbD j || s.ports.b.data.getLsbD j)) ∧
        (∃ t, exec e.2.2.2.1 s = .next t ∧ Delivered s t (Shape.tag e.1) ∧ ∀ j, j < 128 →
          t.resData.getLsbD j = (s.ports.a.data.getLsbD j ^^ s.ports.b.data.getLsbD j))) ∧
      (ReadyA s e.1 → ∃ t, exec e.2.2.2.2 s = .next t ∧ Delivered s t (Shape.tag e.1) ∧ ∀ j, j < 128 →
        t.resData.getLsbD j = !s.ports.a.data.getLsbD j)

/-- For each of the four mask shapes: if A and B carry well-formed masks of the shape, AND, OR and XOR answer a next
state whose result is a well-formed mask of the shape, and so does NOT if A carries one. (43_bitwise.md R134) -/
def Obligations.BitwiseMaskClosure : Prop :=
  ∀ e ∈ [(Shape.m64x2, Instr.andM64x2, Instr.orM64x2, Instr.xorM64x2, Instr.notM64x2),
     (Shape.m32x4, Instr.andM32x4, Instr.orM32x4, Instr.xorM32x4, Instr.notM32x4),
     (Shape.m16x8, Instr.andM16x8, Instr.orM16x8, Instr.xorM16x8, Instr.notM16x8),
     (Shape.m8x16, Instr.andM8x16, Instr.orM8x16, Instr.xorM8x16, Instr.notM8x16)],
    ∀ s : State,
      (ReadyAB s e.1 → ∀ i ∈ [e.2.1, e.2.2.1, e.2.2.2.1], ∃ t, exec i s = .next t ∧ Holds ⟨t.resTag, t.resData⟩ e.1) ∧
      (ReadyA s e.1 → ∃ t, exec e.2.2.2.2 s = .next t ∧ Holds ⟨t.resTag, t.resData⟩ e.1)

/-- For every instruction of ADD, MUL, AND, OR, XOR in every shape it has, and two states that differ only in that ports
A and B are exchanged, exec answers the same result register (also where it is an error). (42_arithmetic.md R102,
42_arithmetic.md R104, 43_bitwise.md R130, 43_bitwise.md R131, 43_bitwise.md R132, 95_test_vectors.md P2) -/
def Obligations.CommutativeOperations : Prop :=
  ∀ (i : Instr) (s t t' : State), Instr.opc i ∈ [Opc.add, .mul, .and, .or, .xor] → exec i s = .next t →
    exec i { s with ports := { s.ports with a := s.ports.b, b := s.ports.a } } = .next t' → SameResult t t'

/-- For LT, LE, EQ, NE, GT, GE of I32x4, I16x8, I8x16 and every state whose ports A and B carry values of the shape,
exec answers a delivered mask of the shape's geometry (M32x4, M16x8, M8x16) whose lane k is all ones where the
relation of the signed lanes holds and all zeros where it does not. (44_compare.md R140, 44_compare.md R141,
44_compare.md R142, 44_compare.md R143, 44_compare.md R144, 44_compare.md R145, 44_compare.md R146, 44_compare.md
R147) -/
def Obligations.IntegerCompareMasks : Prop :=
  ∀ e ∈ [(Shape.i32x4, Instr.ltI32x4, Instr.leI32x4, Instr.eqI32x4, Instr.neI32x4, Instr.gtI32x4, Instr.geI32x4),
     (Shape.i16x8, Instr.ltI16x8, Instr.leI16x8, Instr.eqI16x8, Instr.neI16x8, Instr.gtI16x8, Instr.geI16x8),
     (Shape.i8x16, Instr.ltI8x16, Instr.leI8x16, Instr.eqI8x16, Instr.neI8x16, Instr.gtI8x16, Instr.geI8x16)],
    ∀ s : State, ReadyAB s e.1 →
      DeliversMask e.2.1 s e.1 (fun k => (laneA s e.1 k).toInt < (laneB s e.1 k).toInt) ∧
      DeliversMask e.2.2.1 s e.1 (fun k => (laneA s e.1 k).toInt ≤ (laneB s e.1 k).toInt) ∧
      DeliversMask e.2.2.2.1 s e.1 (fun k => (laneA s e.1 k).toInt = (laneB s e.1 k).toInt) ∧
      DeliversMask e.2.2.2.2.1 s e.1 (fun k => (laneA s e.1 k).toInt ≠ (laneB s e.1 k).toInt) ∧
      DeliversMask e.2.2.2.2.2.1 s e.1 (fun k => (laneA s e.1 k).toInt > (laneB s e.1 k).toInt) ∧
      DeliversMask e.2.2.2.2.2.2 s e.1 (fun k => (laneA s e.1 k).toInt ≥ (laneB s e.1 k).toInt)

/-- For LT, LE, EQ, NE, GT, GE of F64x2 and F32x4 and every state whose ports A and B carry values of the shape, exec
answers a delivered mask of the geometry whose lane k is all ones exactly where: neither lane is NaN and the
relation holds of the extended real values (so -0 equals +0, and the infinities are at the ends); for NE, where it
is not the case that neither is NaN and the values are equal. (44_compare.md R140, 44_compare.md R141, 44_compare.md
R142, 44_compare.md R143, 44_compare.md R144, 44_compare.md R145, 44_compare.md R146, 44_compare.md R147) -/
def Obligations.FloatCompareMasks : Prop :=
  ∀ e ∈ [
     (Shape.f64x2, binary64, Instr.ltF64x2, Instr.leF64x2, Instr.eqF64x2, Instr.neF64x2, Instr.gtF64x2, Instr.geF64x2),
     (Shape.f32x4, binary32, Instr.ltF32x4, Instr.leF32x4, Instr.eqF32x4, Instr.neF32x4, Instr.gtF32x4, Instr.geF32x4)],
    ∀ s : State, ReadyAB s e.1 →
      let x := fun k => fval e.2.1 (laneA s e.1 k)
      let y := fun k => fval e.2.1 (laneB s e.1 k)
      let ordered := fun k => x k ≠ .nan ∧ y k ≠ .nan
      DeliversMask e.2.2.1 s e.1 (fun k => ordered k ∧ extOf e.2.1 (x k) < extOf e.2.1 (y k)) ∧
      DeliversMask e.2.2.2.1 s e.1 (fun k => ordered k ∧ extOf e.2.1 (x k) ≤ extOf e.2.1 (y k)) ∧
      DeliversMask e.2.2.2.2.1 s e.1 (fun k => ordered k ∧ extOf e.2.1 (x k) = extOf e.2.1 (y k)) ∧
      DeliversMask e.2.2.2.2.2.1 s e.1 (fun k => ¬ (ordered k ∧ extOf e.2.1 (x k) = extOf e.2.1 (y k))) ∧
      DeliversMask e.2.2.2.2.2.2.1 s e.1 (fun k => ordered k ∧ extOf e.2.1 (x k) > extOf e.2.1 (y k)) ∧
      DeliversMask e.2.2.2.2.2.2.2 s e.1 (fun k => ordered k ∧ extOf e.2.1 (x k) ≥ extOf e.2.1 (y k))

/-- For SWIZZLE of each of the nine shapes and every state whose port A carries a value of the shape and whose index
bytes 0 to N-1 are below N, exec answers a delivered result of tag SHAPE whose lane k is lane idx_k of A, moved
unchanged. (45_rearrange.md R151, 30_encoding.md R68) -/
def Obligations.SwizzleLanes : Prop :=
  ∀ e ∈ [(Shape.f64x2, Instr.swizzleF64x2), (Shape.f32x4, Instr.swizzleF32x4), (Shape.i32x4, Instr.swizzleI32x4),
     (Shape.i16x8, Instr.swizzleI16x8), (Shape.i8x16, Instr.swizzleI8x16), (Shape.m64x2, Instr.swizzleM64x2),
     (Shape.m32x4, Instr.swizzleM32x4), (Shape.m16x8, Instr.swizzleM16x8), (Shape.m8x16, Instr.swizzleM8x16)],
    ∀ s : State, ReadyA s e.1 → IndicesBelow s e.1 (shapeLanes e.1) →
      DeliversLanes e.2 s e.1 (fun k => laneA s e.1 (laneIndex s.ports.idx k))

/-- For SHUFFLE of each of the nine shapes and every state whose ports A and B carry values of the shape and whose index
bytes 0 to N-1 are below 2N, exec answers a delivered result whose lane k is lane idx_k of A where idx_k < N and
lane idx_k - N of B otherwise. (45_rearrange.md R152, 30_encoding.md R68) -/
def Obligations.ShuffleLanes : Prop :=
  ∀ e ∈ [(Shape.f64x2, Instr.shuffleF64x2), (Shape.f32x4, Instr.shuffleF32x4), (Shape.i32x4, Instr.shuffleI32x4),
     (Shape.i16x8, Instr.shuffleI16x8), (Shape.i8x16, Instr.shuffleI8x16), (Shape.m64x2, Instr.shuffleM64x2),
     (Shape.m32x4, Instr.shuffleM32x4), (Shape.m16x8, Instr.shuffleM16x8), (Shape.m8x16, Instr.shuffleM8x16)],
    ∀ s : State, ReadyAB s e.1 → IndicesBelow s e.1 (2 * shapeLanes e.1) →
      DeliversLanes e.2 s e.1 (fun k =>
        if laneIndex s.ports.idx k < shapeLanes e.1 then laneA s e.1 (laneIndex s.ports.idx k)
        else laneB s e.1 (laneIndex s.ports.idx k - shapeLanes e.1))

/-- For every shape s and state whose IDX is the expansion's index word: with a value of s on A, MOV.s answers A's data
unchanged (the identity swizzle), BCAST.s with j < N answers lane j of A in every lane, REV.s answers lane N-1-k in
lane k; with values on A and B, ZIPLO.s answers lane k/2 of A in even lanes and of B in odd lanes. (30_encoding.md
R74, 45_rearrange.md R151, 45_rearrange.md R152) -/
def Obligations.PseudoOperationsExpand : Prop :=
  ∀ (sh : Shape) (s : State),
    (ReadyA s sh → s.ports.idx = (pseudoMov sh).idx → DeliversData (pseudoMov sh).instr s sh s.ports.a.data) ∧
    (ReadyA s sh → ∀ j, j < shapeLanes sh → s.ports.idx = (pseudoBcast sh j).idx →
      DeliversLanes (pseudoBcast sh j).instr s sh (fun _ => laneA s sh j)) ∧
    (ReadyA s sh → s.ports.idx = (pseudoRev sh).idx →
      DeliversLanes (pseudoRev sh).instr s sh (fun k => laneA s sh (shapeLanes sh - 1 - k))) ∧
    (ReadyAB s sh → s.ports.idx = (pseudoZiplo sh).idx →
      DeliversLanes (pseudoZiplo sh).instr s sh (fun k =>
        if k % 2 = 0 then laneA s sh (k / 2) else laneB s sh (k / 2)))

/-- For every shape, list of N index arguments and state whose IDX is the word the host builds from them: if A carries a
value of the shape and some argument is no integer in [0, N-1], SWIZZLE raises RangeError (code 3, NONE, zeros); if
A and B do and some argument is no integer in [0, 2N-1], SHUFFLE does. (30_encoding.md R69, 45_rearrange.md R150) -/
def Obligations.BadIndexArgumentRaisesRangeError : Prop :=
  ∀ (sh : Shape) (s : State) (args : List IndexArg), args.length = shapeLanes sh →
    s.ports.idx = encodeIndices args →
    (ReadyA s sh → (∃ x ∈ args, ∀ n : Int, x = .int n → ¬ (0 ≤ n ∧ n < shapeLanes sh)) →
      RaisesCode (swizzleInstr sh) s 3#3) ∧
    (ReadyAB s sh → (∃ x ∈ args, ∀ n : Int, x = .int n → ¬ (0 ≤ n ∧ n < 2 * shapeLanes sh)) →
      RaisesCode (shuffleInstr sh) s 3#3)

/-- For SELECT of each of the nine shapes and every state whose port A carries a well-formed mask of the shape's
geometry and whose ports B and C carry values of the shape, exec answers a delivered result of tag SHAPE whose lane
k is lane k of B where lane k of A is all ones, else lane k of C. (46_select.md R160) -/
def Obligations.SelectLanes : Prop :=
  ∀ e ∈ [(Shape.f64x2, Instr.selectF64x2), (Shape.f32x4, Instr.selectF32x4), (Shape.i32x4, Instr.selectI32x4),
     (Shape.i16x8, Instr.selectI16x8), (Shape.i8x16, Instr.selectI8x16), (Shape.m64x2, Instr.selectM64x2),
     (Shape.m32x4, Instr.selectM32x4), (Shape.m16x8, Instr.selectM16x8), (Shape.m8x16, Instr.selectM8x16)],
    ∀ s : State, HoldsMask s.ports.a e.1 → Holds s.ports.b e.1 → Holds s.ports.c e.1 →
      DeliversLanes e.2 s e.1 (fun k =>
        if laneA s e.1 k = BitVec.allOnes (shapeWidth e.1) then laneB s e.1 k else laneC s e.1 k)

/-- For BITSELECT of the five numeric shapes and every state whose port A carries a value of any of the nine shapes and
whose ports B and C carry values of SHAPE, exec answers a delivered result whose bit j, for every j below 128, is
bit j of B where bit j of A is 1, else bit j of C. (46_select.md R161) -/
def Obligations.BitSelectBits : Prop :=
  ∀ e ∈ [(Shape.f64x2, Instr.bitselectF64x2), (Shape.f32x4, Instr.bitselectF32x4), (Shape.i32x4, Instr.bitselectI32x4),
     (Shape.i16x8, Instr.bitselectI16x8), (Shape.i8x16, Instr.bitselectI8x16)],
    ∀ s : State, Proper s.ports.a → Holds s.ports.b e.1 → Holds s.ports.c e.1 →
      ∃ t, exec e.2 s = .next t ∧ Delivered s t (Shape.tag e.1) ∧ ∀ j, j < 128 →
        t.resData.getLsbD j = if s.ports.a.data.getLsbD j then s.ports.b.data.getLsbD j else s.ports.c.data.getLsbD j

/-- For CVT.s.s of the five numeric shapes and every state whose port A carries a value of s, exec answers a delivered
result of tag s whose data is A's data: no lane is converted and a NaN keeps its payload. (R95) -/
def Obligations.IdentityConversionKeepsEveryBit : Prop :=
  ∀ e ∈ [(Shape.f64x2, Instr.cvtF64x2F64x2), (Shape.f32x4, Instr.cvtF32x4F32x4), (Shape.i32x4, Instr.cvtI32x4I32x4),
     (Shape.i16x8, Instr.cvtI16x8I16x8), (Shape.i8x16, Instr.cvtI8x16I8x16)],
    ∀ s : State, ReadyA s e.1 → DeliversData e.2 s e.1 s.ports.a.data

/-- For each of the 25 instructions BITCAST.D.S and every state whose port A carries a value of S, exec answers a
delivered result of tag D whose data is A's data. (41_conversion.md R96) -/
def Obligations.BitcastKeepsData : Prop :=
  ∀ e ∈ [(Shape.f64x2, Shape.f64x2, Instr.bitcastF64x2F64x2), (Shape.f64x2, Shape.f32x4, Instr.bitcastF64x2F32x4),
     (Shape.f64x2, Shape.i32x4, Instr.bitcastF64x2I32x4), (Shape.f64x2, Shape.i16x8, Instr.bitcastF64x2I16x8),
     (Shape.f64x2, Shape.i8x16, Instr.bitcastF64x2I8x16), (Shape.f32x4, Shape.f64x2, Instr.bitcastF32x4F64x2),
     (Shape.f32x4, Shape.f32x4, Instr.bitcastF32x4F32x4), (Shape.f32x4, Shape.i32x4, Instr.bitcastF32x4I32x4),
     (Shape.f32x4, Shape.i16x8, Instr.bitcastF32x4I16x8), (Shape.f32x4, Shape.i8x16, Instr.bitcastF32x4I8x16),
     (Shape.i32x4, Shape.f64x2, Instr.bitcastI32x4F64x2), (Shape.i32x4, Shape.f32x4, Instr.bitcastI32x4F32x4),
     (Shape.i32x4, Shape.i32x4, Instr.bitcastI32x4I32x4), (Shape.i32x4, Shape.i16x8, Instr.bitcastI32x4I16x8),
     (Shape.i32x4, Shape.i8x16, Instr.bitcastI32x4I8x16), (Shape.i16x8, Shape.f64x2, Instr.bitcastI16x8F64x2),
     (Shape.i16x8, Shape.f32x4, Instr.bitcastI16x8F32x4), (Shape.i16x8, Shape.i32x4, Instr.bitcastI16x8I32x4),
     (Shape.i16x8, Shape.i16x8, Instr.bitcastI16x8I16x8), (Shape.i16x8, Shape.i8x16, Instr.bitcastI16x8I8x16),
     (Shape.i8x16, Shape.f64x2, Instr.bitcastI8x16F64x2), (Shape.i8x16, Shape.f32x4, Instr.bitcastI8x16F32x4),
     (Shape.i8x16, Shape.i32x4, Instr.bitcastI8x16I32x4), (Shape.i8x16, Shape.i16x8, Instr.bitcastI8x16I16x8),
     (Shape.i8x16, Shape.i8x16, Instr.bitcastI8x16I8x16)],
    ∀ s : State, ReadyA s e.2.1 → DeliversData e.2.2 s e.1 s.ports.a.data

/-- For every ordered pair of numeric shapes D, S with instructions BITCAST.D.S and BITCAST.S.D: from a state whose port
A carries a value of S, the first answers t; with t's result presented on port A, the second answers a result of tag
S with the data of the operand. (41_conversion.md R96, 95_test_vectors.md P3, 70_reset_and_hazards.md R194) -/
def Obligations.BitcastRoundTrip : Prop :=
  ∀ (d src : Shape) (i j : Instr), conversionOf .bitcast d src = some i → conversionOf .bitcast src d = some j →
    ∀ s : State, ReadyA s src → ∃ t, exec i s = .next t ∧
      ∃ u, exec j { t with ports := { t.ports with a := State.resValue t } } = .next u ∧
        u.resErr = 0#3 ∧ u.resTag = Shape.tag src ∧ u.resData = s.ports.a.data

/-- For the six instructions CVT between different integer shapes and every state whose port A carries a value of the
source shape, exec answers a delivered result of the destination tag whose lane k is the source lane k's signed
value reduced modulo 2^wd (the same value when widening, the low bits when narrowing), and zero where there is no
source lane k. (41_conversion.md R90, 41_conversion.md R91) -/
def Obligations.IntegerToIntegerConversion : Prop :=
  ∀ e ∈ [(Shape.i32x4, Shape.i16x8, Instr.cvtI32x4I16x8), (Shape.i32x4, Shape.i8x16, Instr.cvtI32x4I8x16),
     (Shape.i16x8, Shape.i8x16, Instr.cvtI16x8I8x16), (Shape.i16x8, Shape.i32x4, Instr.cvtI16x8I32x4),
     (Shape.i8x16, Shape.i32x4, Instr.cvtI8x16I32x4), (Shape.i8x16, Shape.i16x8, Instr.cvtI8x16I16x8)],
    ∀ s : State, ReadyA s e.2.1 → DeliversLanes e.2.2 s e.1 (fun k =>
      if k < shapeLanes e.2.1 then BitVec.ofInt _ (laneA s e.2.1 k).toInt else 0#_)

/-- For the six instructions CVT from an integer to a float shape and every state whose port A carries a value of the
source shape, exec answers a delivered result of the destination tag of which lane k is +0 where the source lane k
is 0 or there is none, and else is the signed value of the source lane rounded to nearest even in the destination
format, which is exact whenever its magnitude is below 2^24 (binary32) or for every source (binary64).
(41_conversion.md R90, 41_conversion.md R92, 00_scope.md R10) -/
def Obligations.IntegerToFloatConversion : Prop :=
  ∀ e ∈ [(Shape.f64x2, binary64, Shape.i32x4, Instr.cvtF64x2I32x4),
     (Shape.f64x2, binary64, Shape.i16x8, Instr.cvtF64x2I16x8),
     (Shape.f64x2, binary64, Shape.i8x16, Instr.cvtF64x2I8x16),
     (Shape.f32x4, binary32, Shape.i32x4, Instr.cvtF32x4I32x4),
     (Shape.f32x4, binary32, Shape.i16x8, Instr.cvtF32x4I16x8),
     (Shape.f32x4, binary32, Shape.i8x16, Instr.cvtF32x4I8x16)],
    ∀ s : State, ReadyA s e.2.2.1 → ∃ t, exec e.2.2.2 s = .next t ∧ Delivered s t (Shape.tag e.1) ∧
      ∀ k, k < shapeLanes e.1 →
        (shapeLanes e.2.2.1 ≤ k → resLane t e.1 k = 0#_) ∧
        (k < shapeLanes e.2.2.1 →
          let n := (laneA s e.2.2.1 k).toInt
          (n = 0 → resLane t e.1 k = 0#_) ∧
          (n ≠ 0 → RoundedTo e.2.1 (n : ℚ) (resLane t e.1 k)) ∧
          (|n| ≤ 2 ^ (e.2.1.fracBits + 1) → ratOf e.2.1 (fval e.2.1 (resLane t e.1 k)) = (n : ℚ)))

/-- For the six instructions CVT from a float to an integer shape and every state whose port A carries a value of the
source shape, exec answers a delivered result of the destination tag whose lane k is 0 where there is no source lane
or it is NaN, MAX_wd for +inf, MIN_wd for -inf, and for a finite value its truncation toward zero clamped to
[MIN_wd, MAX_wd]; never an error. (41_conversion.md R90, 41_conversion.md R93, 60_exceptions.md R174) -/
def Obligations.FloatToIntegerConversion : Prop :=
  ∀ e ∈ [(Shape.i32x4, Shape.f64x2, binary64, Instr.cvtI32x4F64x2),
     (Shape.i32x4, Shape.f32x4, binary32, Instr.cvtI32x4F32x4),
     (Shape.i16x8, Shape.f64x2, binary64, Instr.cvtI16x8F64x2),
     (Shape.i16x8, Shape.f32x4, binary32, Instr.cvtI16x8F32x4),
     (Shape.i8x16, Shape.f64x2, binary64, Instr.cvtI8x16F64x2),
     (Shape.i8x16, Shape.f32x4, binary32, Instr.cvtI8x16F32x4)],
    ∀ s : State, ReadyA s e.2.1 → ∃ t, exec e.2.2.2 s = .next t ∧ Delivered s t (Shape.tag e.1) ∧
      ∀ k, k < shapeLanes e.1 →
        (shapeLanes e.2.1 ≤ k → resLane t e.1 k = 0#_) ∧
        (k < shapeLanes e.2.1 →
          let x := fval e.2.2.1 (laneA s e.2.1 k)
          let hi : Int := 2 ^ (shapeWidth e.1 - 1) - 1
          let lo : Int := -2 ^ (shapeWidth e.1 - 1)
          (x = .nan → resLane t e.1 k = 0#_) ∧
          (x = .inf false → (resLane t e.1 k).toInt = hi) ∧
          (x = .inf true → (resLane t e.1 k).toInt = lo) ∧
          (IsFinite e.2.2.1 (laneA s e.2.1 k) →
            let v := ratOf e.2.2.1 x
            (resLane t e.1 k).toInt = max lo (min hi (if 0 ≤ v then ⌊v⌋ else ⌈v⌉))))

/-- For CVT.F64x2.F32x4 and CVT.F32x4.F64x2 and every state whose port A carries a value of the source shape, exec
answers a delivered result of the destination tag of which lane k is zero where there is no source lane, the
canonical NaN for a NaN, the infinity or zero of its sign for an infinity or zero, and else the source value rounded
to nearest even; from F32 to F64 it has exactly the source value. (41_conversion.md R90, 41_conversion.md R94) -/
def Obligations.FloatToFloatConversion : Prop :=
  ∀ e ∈ [(Shape.f64x2, binary64, Shape.f32x4, binary32, Instr.cvtF64x2F32x4),
     (Shape.f32x4, binary32, Shape.f64x2, binary64, Instr.cvtF32x4F64x2)],
    ∀ s : State, ReadyA s e.2.2.1 → ∃ t, exec e.2.2.2.2 s = .next t ∧ Delivered s t (Shape.tag e.1) ∧
      ∀ k, k < shapeLanes e.1 →
        (shapeLanes e.2.2.1 ≤ k → resLane t e.1 k = 0#_) ∧
        (k < shapeLanes e.2.2.1 →
          let x := fval e.2.2.2.1 (laneA s e.2.2.1 k)
          (x = .nan → resLane t e.1 k = cnan e.2.1 _) ∧
          (∀ p, x = .inf p → resLane t e.1 k = infinity e.2.1 _ p) ∧
          (∀ p, x = .fin p 0 → resLane t e.1 k = signedZero e.2.1 _ p) ∧
          (∀ p m, x = .fin p m → m ≠ 0 → RoundedTo e.2.1 (ratOf e.2.2.2.1 x) (resLane t e.1 k) ∧
            (e.2.1 = binary64 → IsFinite e.2.1 (resLane t e.1 k) ∧
              ratOf e.2.1 (fval e.2.1 (resLane t e.1 k)) = ratOf e.2.2.2.1 x)))

/-- For CHECK of each of the nine shapes and every state: if port A carries a value of the shape, exec answers a
delivered result of that tag with A's data unchanged; in every other case (invalid tag, malformed mask, a value of
another shape) it answers the error state with code 1: never ShapeMismatch or RangeError. (40_issue_and_check.md
R85) -/
def Obligations.CheckPassesOnlyItsShape : Prop :=
  ∀ e ∈ [(Shape.f64x2, Instr.checkF64x2), (Shape.f32x4, Instr.checkF32x4), (Shape.i32x4, Instr.checkI32x4),
     (Shape.i16x8, Instr.checkI16x8), (Shape.i8x16, Instr.checkI8x16), (Shape.m64x2, Instr.checkM64x2),
     (Shape.m32x4, Instr.checkM32x4), (Shape.m16x8, Instr.checkM16x8), (Shape.m8x16, Instr.checkM8x16)],
    ∀ s : State, (ReadyA s e.1 → DeliversData e.2 s e.1 s.ports.a.data) ∧ (¬ ReadyA s e.1 → RaisesCode e.2 s 1#3)

/-- For every shape, buffer, index and transfer of the whole shape (n = N) or of a prefix of n in 1..3 lanes below N: if
the buffer is not of the shape's element kind (a buffer of another kind of the same width, and any buffer for a mask
shape, among them), loads and stores answer notACall (the model's name for a call that is not legal, log 8).
Otherwise the buffer has elements of the shape's width and: if the index is an integer i >= 0 with i + n at most the
length, the load gives a value of the shape's tag whose lane k is element i + k below n and zero from n on, and the
store of a value of the shape gives a buffer of the same kind and length with lane k at i + k for k below n and
every other element unchanged; for every other index both raise RangeError. These are the host's functions, not
steps of the block. (20_memory.md R46, 20_memory.md R47, 20_memory.md R48, 20_memory.md R49, 20_memory.md R50,
20_memory.md R51) -/
def Obligations.HostLoadsAndStoresCheckBounds : Prop :=
  ∀ (sh : Shape) (buf : Buffer) (index : IndexArg) (n : Nat),
    (n = shapeLanes sh ∨ (1 ≤ n ∧ n ≤ 3 ∧ n < shapeLanes sh)) →
    let load := if n = shapeLanes sh then hostLoad sh buf index else hostLoadPrefix sh n buf index
    let store := fun v => if n = shapeLanes sh then hostStore sh buf index v else hostStorePrefix sh n buf index v
    (elementKind sh ≠ some buf.kind → load = .error .notACall ∧ ∀ v : Value, store v = .error .notACall) ∧
    (elementKind sh = some buf.kind → ∃ l, buf.elems sh = some l ∧
      (∀ i : Nat, index = .int i → i + n ≤ l.length →
        (∃ v, load = .ok v ∧ v.tag = Shape.tag sh ∧ ∀ k, k < shapeLanes sh →
          (k < n → l[i + k]? = some (lane (shapeWidth sh) v.data k)) ∧
          (n ≤ k → lane (shapeWidth sh) v.data k = 0#_)) ∧
        (∀ v : Value, v.tag = Shape.tag sh → ∃ out, store v = .ok out ∧ out.kind = buf.kind ∧
          ∃ l', out.elems sh = some l' ∧ l'.length = l.length ∧ ∀ j,
            (∀ k, k < n → j = i + k → l'[j]? = some (lane (shapeWidth sh) v.data k)) ∧
            ((∀ k, k < n → j ≠ i + k) → l'[j]? = l[j]?))) ∧
      ((∀ i : Nat, index = .int i → l.length < i + n) →
        load = .error .rangeError ∧ ∀ v : Value, v.tag = Shape.tag sh → store v = .error .rangeError))

/-- For every platform, a clock period of instance k leaves every other instance as it was and the number of instances
unchanged, and moves instance k to the next state its own step answers. That one clock period of the platform steps
one instance of a list is the model's choice (log 6, DESIGN CHOICE); that instances share no state is R182.
(60_exceptions.md R182, 20_memory.md R45) -/
def Obligations.InstancesShareNoState : Prop :=
  ∀ (units : List State) (k : Nat), (platformStep units k).length = units.length ∧
    (∀ j, j ≠ k → (platformStep units k)[j]? = units[j]?) ∧
    (∀ s t, units[k]? = some s → step s = .next t → (platformStep units k)[k]? = some t)
end

