-- ==== Sys2Proof/Laws/Decode.lean ====
section
/-! SUPPORT. The fields of a word and of an instruction, and the number tables read both ways. -/
namespace Sys2Proof

/-- The four fields of a word that is the concatenation of four fields. -/
theorem fields_of_word (f : OpFields) : OpFields.ofWord (OpFields.word f) = f := by
  obtain ⟨o, s, ss, r⟩ := f
  unfold OpFields.ofWord OpFields.word
  congr 1 <;> apply BitVec.eq_of_getLsbD_eq <;> intro j hj <;>
    simp only [BitVec.getLsbD_extractLsb', BitVec.getLsbD_append, hj, decide_true, Bool.true_and]
  · rw [if_neg (by omega), if_neg (by omega), if_neg (by omega)]; congr 1; omega
  · rw [if_neg (by omega), if_neg (by omega), if_pos (by omega)]; congr 1; omega
  · rw [if_neg (by omega), if_pos (by omega)]; congr 1; omega
  · rw [if_pos (by omega)]; congr 1; omega

/-- A word is the concatenation of its fields. -/
theorem word_of_fields (w : OpWord) : OpFields.word (OpFields.ofWord w) = w := by
  unfold OpFields.ofWord OpFields.word
  apply BitVec.eq_of_getLsbD_eq
  intro j hj
  simp only [BitVec.getLsbD_append, BitVec.getLsbD_extractLsb']
  split
  · rename_i h; simp [h]
  · split
    · rename_i h1 h2
      rw [show 18 + (j - 18) = j by omega]; simp [h2]
    · split
      · rename_i h1 h2 h3
        rw [show 22 + (j - 18 - 4) = j by omega]; simp [h3]
      · rename_i h1 h2 h3
        rw [show 26 + (j - 18 - 4 - 4) = j by omega]
        simp; omega

theorem ofCode_code (op : Opc) : Opc.ofCode (Opc.code op) = some op := by cases op <;> rfl

theorem code_of_ofCode : ∀ (c : BitVec 6) (op : Opc), Opc.ofCode c = some op → Opc.code op = c := by
  have key : ∀ c : BitVec 6, (match Opc.ofCode c with | some op => Opc.code op == c | none => true) = true := by decide
  intro c op h
  have := key c
  rw [h] at this
  exact beq_iff_eq.mp this

theorem tag_of_ofTag : ∀ (t : Tag) (sh : Shape), Shape.ofTag t = some sh → Shape.tag sh = t := by
  have key : ∀ t : Tag, (match Shape.ofTag t with | some sh => Shape.tag sh == t | none => true) = true := by decide
  intro t sh h
  have := key t
  rw [h] at this
  exact beq_iff_eq.mp this

end Sys2Proof
end

