-- ==== Sys2Proof/Laws/Lanes.lean ====
section
/-! SUPPORT. Lanes: what `lane` reads of a word, that `vec` writes the lanes it is given, that a word is its lanes, and
the geometry of the shapes and their tags. -/
namespace Sys2Proof.Machine

/-- Bit `j` of lane `i`. -/
theorem lane_getLsbD (w : Nat) (d : Data) (i j : Nat) :
    (lane w d i).getLsbD j = (decide (j < w) && d.getLsbD (w * i + j)) := by
  simp [lane]

/-- A bit of `vec` is the bit of the lane it lies in. -/
theorem vec_getLsbD (w : Nat) (f : Nat → BitVec w) (n i j : Nat) (hj : j < w) (hfit : w * n ≤ 128) :
    (vec w f n).getLsbD (w * i + j) = (decide (i < n) && (f i).getLsbD j) := by
  induction n with
  | zero => simp [vec]
  | succ n ih =>
    have hn : w * n ≤ 128 := le_trans (Nat.mul_le_mul_left w (Nat.le_succ n)) hfit
    rw [Nat.mul_succ] at hfit
    simp only [vec, BitVec.getLsbD_or, ih hn, BitVec.getLsbD_shiftLeft, BitVec.getLsbD_setWidth]
    rcases Nat.lt_trichotomy i n with h | h | h
    · have h1 : w * i + w ≤ w * n := by
        rw [← Nat.mul_succ]; exact Nat.mul_le_mul_left w h
      have h2 : w * i + j < w * n := by omega
      simp [h, h2, Nat.lt_succ_of_lt h]
    · subst h
      have h3 : w * i + j < 128 := by omega
      simp [h3, show j < 128 by omega]
    · have h1 : w * n + w ≤ w * i := by
        rw [← Nat.mul_succ]; exact Nat.mul_le_mul_left w h
      have h4 : ¬ (i < n) := by omega
      have h5 : ¬ (i < n + 1) := by omega
      have h6 : (f n).getLsbD (w * i + j - w * n) = false := BitVec.getLsbD_of_ge _ _ (by omega)
      simp [h4, h5, h6]

/-- Reading a lane of `vec`: the lane it was given. -/
theorem lane_vec (w : Nat) (f : Nat → BitVec w) (n i : Nat) (hi : i < n) (hfit : w * n ≤ 128) :
    lane w (vec w f n) i = f i := by
  apply BitVec.eq_of_getLsbD_eq
  intro j hj
  rw [lane_getLsbD, vec_getLsbD w f n i j hj hfit]
  simp [hi, hj]

/-- A word is its lanes: two words with the same lanes are equal. -/
theorem data_eq_of_lanes (w n : Nat) (hw : 0 < w) (hfit : w * n = 128) (x y : Data)
    (h : ∀ i, i < n → lane w x i = lane w y i) : x = y := by
  apply BitVec.eq_of_getLsbD_eq
  intro j hj
  have hq : j / w < n := Nat.div_lt_of_lt_mul (by omega)
  have hb := congrArg (fun v => BitVec.getLsbD v (j % w)) (h (j / w) hq)
  simp only [lane_getLsbD, Nat.mod_lt j hw, decide_true, Bool.true_and, Nat.div_add_mod] at hb
  exact hb

@[simp] theorem lane_and (w : Nat) (x y : Data) (i : Nat) : lane w (x &&& y) i = lane w x i &&& lane w y i := by
  apply BitVec.eq_of_getLsbD_eq; intro j hj; simp only [lane_getLsbD, BitVec.getLsbD_and, hj, decide_true, Bool.true_and]

@[simp] theorem lane_or (w : Nat) (x y : Data) (i : Nat) : lane w (x ||| y) i = lane w x i ||| lane w y i := by
  apply BitVec.eq_of_getLsbD_eq; intro j hj; simp only [lane_getLsbD, BitVec.getLsbD_or, hj, decide_true, Bool.true_and]

@[simp] theorem lane_xor (w : Nat) (x y : Data) (i : Nat) : lane w (x ^^^ y) i = lane w x i ^^^ lane w y i := by
  apply BitVec.eq_of_getLsbD_eq; intro j hj; simp only [lane_getLsbD, BitVec.getLsbD_xor, hj, decide_true, Bool.true_and]

/-- A lane inside the word of the inverted word. -/
theorem lane_not (w : Nat) (x : Data) (i : Nat) (hfit : w * (i + 1) ≤ 128) : lane w (~~~x) i = ~~~(lane w x i) := by
  rw [Nat.mul_succ] at hfit
  apply BitVec.eq_of_getLsbD_eq; intro j hj
  have h : w * i + j < 128 := by omega
  simp only [lane_getLsbD, BitVec.getLsbD_not, hj, h, decide_true, Bool.true_and]

@[simp] theorem lane_zero (w i : Nat) : lane w 0#128 i = 0#w := by
  apply BitVec.eq_of_getLsbD_eq; intro j hj; simp [lane_getLsbD]

/-- Width times lane count is the vector width, 128 bits (00_scope.md R2). -/
theorem shapeWidth_mul_shapeLanes (sh : Shape) : shapeWidth sh * shapeLanes sh = 128 := by cases sh <;> rfl

theorem shapeWidth_pos (sh : Shape) : 0 < shapeWidth sh := by cases sh <;> decide

theorem shapeLanes_pos (sh : Shape) : 0 < shapeLanes sh := by cases sh <;> decide

/-- Reading a lane of a word built for a shape. -/
theorem lane_vec_shape (sh : Shape) (f : Nat → BitVec (shapeWidth sh)) (i : Nat) (hi : i < shapeLanes sh) :
    lane (shapeWidth sh) (vec (shapeWidth sh) f (shapeLanes sh)) i = f i :=
  lane_vec _ f _ i hi (Nat.le_of_eq (shapeWidth_mul_shapeLanes sh))

@[simp] theorem ofTag_tag (sh : Shape) : Shape.ofTag (Shape.tag sh) = some sh := by cases sh <;> rfl

@[simp] theorem validTag_tag (sh : Shape) : validTag (Shape.tag sh) = true := by cases sh <;> rfl

@[simp] theorem tagWidth_tag (sh : Shape) : tagWidth (Shape.tag sh) = shapeWidth sh := by cases sh <;> rfl

@[simp] theorem tagLanes_tag (sh : Shape) : tagLanes (Shape.tag sh) = shapeLanes sh := by cases sh <;> rfl

@[simp] theorem tagWidth_maskOf (t : Tag) : tagWidth (maskOf t) = tagWidth t := by revert t; decide

@[simp] theorem tagLanes_maskOf (t : Tag) : tagLanes (maskOf t) = tagLanes t := by revert t; decide

@[simp] theorem validTag_maskOf (t : Tag) : validTag (maskOf t) = true := by revert t; decide

@[simp] theorem isMaskTag_maskOf (t : Tag) : isMaskTag (maskOf t) = true := by revert t; decide

/-- A valid tag is the tag of a shape. -/
theorem exists_shape_of_validTag (t : Tag) (h : validTag t = true) : ∃ sh, t = Shape.tag sh := by
  revert h; revert t
  have key : ∀ t : Tag, validTag t = true →
      t = Shape.tag .f64x2 ∨ t = Shape.tag .f32x4 ∨ t = Shape.tag .i32x4 ∨ t = Shape.tag .i16x8 ∨ t = Shape.tag .i8x16 ∨
      t = Shape.tag .m64x2 ∨ t = Shape.tag .m32x4 ∨ t = Shape.tag .m16x8 ∨ t = Shape.tag .m8x16 := by decide
  intro t h
  rcases key t h with h | h | h | h | h | h | h | h | h <;> exact ⟨_, h⟩

end Sys2Proof.Machine
end

