-- ==== Sys2Proof/Laws/Operands.lean ====
section
/-! SUPPORT. The operand checks, each said once: what a value is, when a read port fails the type check or the shape
check, and when an index is out of range. -/
namespace Sys2Proof.Machine

/-- A word is a well-formed mask when every lane of its tag's geometry is all ones or zero. -/
theorem wellFormedMask_iff (v : Value) :
    wellFormedMask v = true ↔ ∀ i, i < tagLanes v.tag →
      lane (tagWidth v.tag) v.data i = BitVec.allOnes _ ∨ lane (tagWidth v.tag) v.data i = 0#_ := by
  simp [wellFormedMask, List.all_eq_true]

/-- A value has a valid tag, and its lanes are full or clear if the tag is a mask's. -/
theorem isValue_iff (v : Value) :
    isValue v = true ↔ validTag v.tag = true ∧ (isMaskTag v.tag = true → wellFormedMask v = true) := by
  unfold isValue
  cases validTag v.tag <;> cases isMaskTag v.tag <;> cases wellFormedMask v <;> simp

/-- The machine's check of an operand says what a value is. -/
theorem isValue_iff_proper (v : Value) : isValue v = true ↔ Proper v := by
  have h1 : ∀ t : Tag, validTag t = true ↔ t ∈ tagsALL := by decide
  have h2 : ∀ t : Tag, isMaskTag t = true ↔ t ∈ tagsMSK := by decide
  rw [isValue_iff, wellFormedMask_iff, h1, h2]; rfl

theorem isValue_eq_false_iff (v : Value) : isValue v = false ↔ ¬ Proper v := by
  rw [← isValue_iff_proper]; simp

/-- A word under a tag that is not a mask's is a value. -/
theorem isValue_of_not_mask (v : Value) (ht : validTag v.tag = true) (hm : isMaskTag v.tag = false) :
    isValue v = true := by
  rw [isValue_iff]; exact ⟨ht, fun h => absurd h (by simp [hm])⟩

/-- The type check passes exactly when every read port carries a value. -/
theorem typeFault_eq_false_iff (ps : List ReadPort) : typeFault ps = false ↔ ∀ p ∈ ps, isValue p.value = true := by
  simp [typeFault, List.any_eq_false]

/-- The type check fails exactly when some read port carries none. -/
theorem typeFault_eq_true_iff (ps : List ReadPort) : typeFault ps = true ↔ ∃ p ∈ ps, isValue p.value = false := by
  simp [typeFault, List.any_eq_true]

/-- The shape check passes exactly when every read port with a required tag carries it. -/
theorem shapeFault_eq_false_iff (ps : List ReadPort) :
    shapeFault ps = false ↔ ∀ p ∈ ps, ∀ t, p.required = some t → p.value.tag = t := by
  have h : ∀ p : ReadPort, tagAgrees p = true ↔ ∀ t, p.required = some t → p.value.tag = t := by
    intro p; unfold tagAgrees; cases p.required <;> simp
  simp only [shapeFault, List.any_eq_false, Bool.not_eq_true', Bool.not_eq_false, h]

/-- The shape check fails exactly when some read port carries another tag than the required one. -/
theorem shapeFault_eq_true_iff (ps : List ReadPort) :
    shapeFault ps = true ↔ ∃ p ∈ ps, ∃ t, p.required = some t ∧ p.value.tag ≠ t := by
  have h : ∀ p : ReadPort, tagAgrees p = false ↔ ∃ t, p.required = some t ∧ p.value.tag ≠ t := by
    intro p; unfold tagAgrees; cases p.required <;> simp
  simp only [shapeFault, List.any_eq_true, Bool.not_eq_true', h]

/-- The index check passes exactly when every index of the lanes is below the limit. -/
theorem rangeFault_eq_false_iff (n limit : Nat) (idx : Data) :
    rangeFault n limit idx = false ↔ ∀ k, k < n → laneIndex idx k < limit := by
  simp [rangeFault, List.any_eq_false]

/-- The index check fails exactly when some index of the lanes is at or above the limit. -/
theorem rangeFault_eq_true_iff (n limit : Nat) (idx : Data) :
    rangeFault n limit idx = true ↔ ∃ k, k < n ∧ limit ≤ laneIndex idx k := by
  simp [rangeFault, List.any_eq_true]

end Sys2Proof.Machine
end

