-- ==== Sys2Proof/Laws/State.lean ====
section
/-! SUPPORT. One lemma per field of State for each of its updates: raising, delivering, idling, resetting, presenting the
host's next step, and driving a word. No later proof unfolds an update. -/
namespace Sys2Proof.Machine

@[simp] theorem raiseError_resValid (s : State) (e : OpError) : (s.raiseError e).resValid = true := rfl
@[simp] theorem raiseError_resTag (s : State) (e : OpError) : (s.raiseError e).resTag = tagNone := rfl
@[simp] theorem raiseError_resData (s : State) (e : OpError) : (s.raiseError e).resData = 0#128 := rfl
@[simp] theorem raiseError_resErr (s : State) (e : OpError) : (s.raiseError e).resErr = errorCode e := rfl
@[simp] theorem raiseError_ports (s : State) (e : OpError) : (s.raiseError e).ports = s.ports := rfl
@[simp] theorem raiseError_pending (s : State) (e : OpError) : (s.raiseError e).pending = s.pending := rfl

@[simp] theorem deliver_resValid (s : State) (v : Value) : (s.deliver v).resValid = true := rfl
@[simp] theorem deliver_resTag (s : State) (v : Value) : (s.deliver v).resTag = v.tag := rfl
@[simp] theorem deliver_resData (s : State) (v : Value) : (s.deliver v).resData = v.data := rfl
@[simp] theorem deliver_resErr (s : State) (v : Value) : (s.deliver v).resErr = errOk := rfl
@[simp] theorem deliver_ports (s : State) (v : Value) : (s.deliver v).ports = s.ports := rfl
@[simp] theorem deliver_pending (s : State) (v : Value) : (s.deliver v).pending = s.pending := rfl

@[simp] theorem idleStep_resValid (s : State) : (s.idleStep).resValid = false := rfl
@[simp] theorem idleStep_resTag (s : State) : (s.idleStep).resTag = s.resTag := rfl
@[simp] theorem idleStep_resData (s : State) : (s.idleStep).resData = s.resData := rfl
@[simp] theorem idleStep_resErr (s : State) : (s.idleStep).resErr = s.resErr := rfl
@[simp] theorem idleStep_ports (s : State) : (s.idleStep).ports = s.ports := rfl
@[simp] theorem idleStep_pending (s : State) : (s.idleStep).pending = s.pending := rfl

@[simp] theorem resetStep_resValid (s : State) : (s.resetStep).resValid = false := rfl
@[simp] theorem resetStep_resTag (s : State) : (s.resetStep).resTag = tagNone := rfl
@[simp] theorem resetStep_resData (s : State) : (s.resetStep).resData = 0#128 := rfl
@[simp] theorem resetStep_resErr (s : State) : (s.resetStep).resErr = errOk := rfl
@[simp] theorem resetStep_ports (s : State) : (s.resetStep).ports = s.ports := rfl
@[simp] theorem resetStep_pending (s : State) : (s.resetStep).pending = s.pending := rfl

@[simp] theorem present_resValid (s : State) : s.present.resValid = s.resValid := by
  unfold State.present; split <;> rfl
@[simp] theorem present_resTag (s : State) : s.present.resTag = s.resTag := by
  unfold State.present; split <;> rfl
@[simp] theorem present_resData (s : State) : s.present.resData = s.resData := by
  unfold State.present; split <;> rfl
@[simp] theorem present_resErr (s : State) : s.present.resErr = s.resErr := by
  unfold State.present; split <;> rfl

theorem present_nil (s : State) (h : s.pending = []) : s.present = s := by
  unfold State.present; rw [h]

theorem present_cons (s : State) (p : Ports) (ps : List Ports) (h : s.pending = p :: ps) :
    s.present.ports = p ∧ s.present.pending = ps := by
  unfold State.present; rw [h]; exact ⟨rfl, rfl⟩

@[simp] theorem withFetchWord_resValid (s : State) (nbits w : Nat) : (s.withFetchWord nbits w).resValid = s.resValid := rfl
@[simp] theorem withFetchWord_resTag (s : State) (nbits w : Nat) : (s.withFetchWord nbits w).resTag = s.resTag := rfl
@[simp] theorem withFetchWord_resData (s : State) (nbits w : Nat) : (s.withFetchWord nbits w).resData = s.resData := rfl
@[simp] theorem withFetchWord_resErr (s : State) (nbits w : Nat) : (s.withFetchWord nbits w).resErr = s.resErr := rfl
@[simp] theorem withFetchWord_pending (s : State) (nbits w : Nat) : (s.withFetchWord nbits w).pending = s.pending := rfl
@[simp] theorem withFetchWord_ports_reset (s : State) (nbits w : Nat) :
    (s.withFetchWord nbits w).ports.reset = false := rfl
@[simp] theorem withFetchWord_ports_opValid (s : State) (nbits w : Nat) :
    (s.withFetchWord nbits w).ports.opValid = true := rfl
@[simp] theorem withFetchWord_ports_op (s : State) (nbits w : Nat) :
    (s.withFetchWord nbits w).ports.op = BitVec.ofNat 32 (w % 2 ^ nbits) := rfl
@[simp] theorem withFetchWord_ports_a (s : State) (nbits w : Nat) :
    (s.withFetchWord nbits w).ports.a = s.ports.a := rfl
@[simp] theorem withFetchWord_ports_b (s : State) (nbits w : Nat) :
    (s.withFetchWord nbits w).ports.b = s.ports.b := rfl
@[simp] theorem withFetchWord_ports_c (s : State) (nbits w : Nat) :
    (s.withFetchWord nbits w).ports.c = s.ports.c := rfl
@[simp] theorem withFetchWord_ports_idx (s : State) (nbits w : Nat) :
    (s.withFetchWord nbits w).ports.idx = s.ports.idx := rfl


end Sys2Proof.Machine
end

