-- ==== Sys2Proof/Laws/Ops.lean ====
section
/-! SUPPORT. The issue under the checks and each operand form, said once: what it answers when its ports are ready, and
that it only ever raises or delivers. The meanings are these forms, so no proof about an instruction unfolds more than
its own definition. -/
namespace Sys2Proof.Machine

/-- An issue raises one of the three operand errors, by the priority of 60_exceptions.md R172, or delivers. -/
theorem issue_cases (s : State) (ps : List ReadPort) (r : Bool) (v : Value) :
    (typeFault ps = true ∧ s.issue ps r v = s.raiseError .typeMismatch) ∨
    (typeFault ps = false ∧ shapeFault ps = true ∧ s.issue ps r v = s.raiseError .shapeMismatch) ∨
    (typeFault ps = false ∧ shapeFault ps = false ∧ r = true ∧ s.issue ps r v = s.raiseError .rangeError) ∨
    (typeFault ps = false ∧ shapeFault ps = false ∧ r = false ∧ s.issue ps r v = s.deliver v) := by
  unfold State.issue
  cases typeFault ps <;> cases shapeFault ps <;> cases r <;> simp

theorem issue_of_typeFault (s : State) (ps : List ReadPort) (r : Bool) (v : Value) (h : typeFault ps = true) :
    s.issue ps r v = s.raiseError .typeMismatch := by
  simp [State.issue, h]

theorem issue_of_shapeFault (s : State) (ps : List ReadPort) (r : Bool) (v : Value) (h : typeFault ps = false)
    (h' : shapeFault ps = true) : s.issue ps r v = s.raiseError .shapeMismatch := by
  simp [State.issue, h, h']

theorem issue_of_range (s : State) (ps : List ReadPort) (v : Value) (h : typeFault ps = false)
    (h' : shapeFault ps = false) : s.issue ps true v = s.raiseError .rangeError := by
  simp [State.issue, h, h']

theorem issue_of_passed (s : State) (ps : List ReadPort) (v : Value) (h : typeFault ps = false)
    (h' : shapeFault ps = false) : s.issue ps false v = s.deliver v := by
  simp [State.issue, h, h']

/-- An issue leaves the inputs of the step as they were (40_issue_and_check.md R86). -/
theorem issue_sameInputs (s : State) (ps : List ReadPort) (r : Bool) (v : Value) : SameInputs s (s.issue ps r v) := by
  rcases issue_cases s ps r v with ⟨_, h⟩ | ⟨_, _, h⟩ | ⟨_, _, _, h⟩ | ⟨_, _, _, h⟩ <;> rw [h] <;> exact ⟨rfl, rfl⟩

/-- Delivering under a tag is a delivered result. -/
theorem deliver_delivered (s : State) (v : Value) : Delivered s (s.deliver v) v.tag := ⟨rfl, rfl, rfl, rfl, rfl⟩

/-- Raising leaves what an error leaves. -/
theorem raiseError_raised (s : State) (e : OpError) : Raised s (s.raiseError e) (errorCode e) :=
  ⟨rfl, rfl, rfl, rfl, rfl, rfl⟩

/-- One port of its shape passes the type check and the shape check. -/
theorem checks_one (v : Value) (sh : Shape) (h : Holds v sh) :
    typeFault [needShape v sh] = false ∧ shapeFault [needShape v sh] = false := by
  obtain ⟨ht, hv⟩ := h
  rw [← isValue_iff_proper] at hv
  rw [typeFault_eq_false_iff, shapeFault_eq_false_iff]
  simp [needShape, ht, hv]

/-- Two ports of their shape pass the checks. -/
theorem checks_two (v u : Value) (sh : Shape) (h : Holds v sh) (h' : Holds u sh) :
    typeFault [needShape v sh, needShape u sh] = false ∧ shapeFault [needShape v sh, needShape u sh] = false := by
  obtain ⟨ht, hv⟩ := h
  rw [← isValue_iff_proper] at hv
  obtain ⟨ht', hv'⟩ := h'
  rw [← isValue_iff_proper] at hv'
  rw [typeFault_eq_false_iff, shapeFault_eq_false_iff]
  simp [needShape, ht, hv, ht', hv']

/-- Three ports of their shape pass the checks. -/
theorem checks_three (v u x : Value) (sh : Shape) (h : Holds v sh) (h' : Holds u sh) (h'' : Holds x sh) :
    typeFault [needShape v sh, needShape u sh, needShape x sh] = false ∧
      shapeFault [needShape v sh, needShape u sh, needShape x sh] = false := by
  obtain ⟨ht, hv⟩ := h
  rw [← isValue_iff_proper] at hv
  obtain ⟨ht', hv'⟩ := h'
  rw [← isValue_iff_proper] at hv'
  obtain ⟨ht'', hv''⟩ := h''
  rw [← isValue_iff_proper] at hv''
  rw [typeFault_eq_false_iff, shapeFault_eq_false_iff]
  simp [needShape, ht, hv, ht', hv', ht'', hv'']

/-- The unary form delivers, lane by lane. -/
theorem unary_spec (s : State) (sh : Shape) (f : BitVec (shapeWidth sh) → BitVec (shapeWidth sh))
    (h : ReadyA s sh) :
    Delivered s (s.unary sh f) (Shape.tag sh) ∧ ∀ k, k < shapeLanes sh →
      lane (shapeWidth sh) (s.unary sh f).resData k = f (lane (shapeWidth sh) s.ports.a.data k) := by
  obtain ⟨h1, h2⟩ := checks_one _ _ h
  rw [State.unary, issue_of_passed _ _ _ h1 h2]
  exact ⟨deliver_delivered _ _, fun k hk => lane_vec_shape sh _ k hk⟩

/-- The binary form delivers, lane by lane. -/
theorem binary_spec (s : State) (sh : Shape)
    (f : BitVec (shapeWidth sh) → BitVec (shapeWidth sh) → BitVec (shapeWidth sh)) (h : ReadyAB s sh) :
    Delivered s (s.binary sh f) (Shape.tag sh) ∧ ∀ k, k < shapeLanes sh →
      lane (shapeWidth sh) (s.binary sh f).resData k =
        f (lane (shapeWidth sh) s.ports.a.data k) (lane (shapeWidth sh) s.ports.b.data k) := by
  obtain ⟨h1, h2⟩ := checks_two _ _ _ h.1 h.2
  rw [State.binary, issue_of_passed _ _ _ h1 h2]
  exact ⟨deliver_delivered _ _, fun k hk => lane_vec_shape sh _ k hk⟩

/-- The ternary form delivers, lane by lane. -/
theorem ternary_spec (s : State) (sh : Shape)
    (f : BitVec (shapeWidth sh) → BitVec (shapeWidth sh) → BitVec (shapeWidth sh) → BitVec (shapeWidth sh))
    (h : ReadyABC s sh) :
    Delivered s (s.ternary sh f) (Shape.tag sh) ∧ ∀ k, k < shapeLanes sh →
      lane (shapeWidth sh) (s.ternary sh f).resData k =
        f (lane (shapeWidth sh) s.ports.a.data k) (lane (shapeWidth sh) s.ports.b.data k)
          (lane (shapeWidth sh) s.ports.c.data k) := by
  obtain ⟨h1, h2⟩ := checks_three _ _ _ _ h.1 h.2.1 h.2.2
  rw [State.ternary, issue_of_passed _ _ _ h1 h2]
  exact ⟨deliver_delivered _ _, fun k hk => lane_vec_shape sh _ k hk⟩

/-- The unary form on whole words delivers. -/
theorem unaryWord_spec (s : State) (sh : Shape) (f : Data → Data) (h : ReadyA s sh) :
    Delivered s (s.unaryWord sh f) (Shape.tag sh) ∧ (s.unaryWord sh f).resData = f s.ports.a.data := by
  obtain ⟨h1, h2⟩ := checks_one _ _ h
  rw [State.unaryWord, issue_of_passed _ _ _ h1 h2]
  exact ⟨deliver_delivered _ _, rfl⟩

/-- The binary form on whole words delivers. -/
theorem binaryWord_spec (s : State) (sh : Shape) (f : Data → Data → Data) (h : ReadyAB s sh) :
    Delivered s (s.binaryWord sh f) (Shape.tag sh) ∧
      (s.binaryWord sh f).resData = f s.ports.a.data s.ports.b.data := by
  obtain ⟨h1, h2⟩ := checks_two _ _ _ h.1 h.2
  rw [State.binaryWord, issue_of_passed _ _ _ h1 h2]
  exact ⟨deliver_delivered _ _, rfl⟩

/-- A comparison delivers a mask, lane by lane. -/
theorem compare_spec (s : State) (sh : Shape) (p : BitVec (shapeWidth sh) → BitVec (shapeWidth sh) → Bool)
    (h : ReadyAB s sh) :
    Delivered s (s.compare sh p) (maskOf (Shape.tag sh)) ∧ ∀ k, k < shapeLanes sh →
      lane (shapeWidth sh) (s.compare sh p).resData k = maskLane (shapeWidth sh)
        (p (lane (shapeWidth sh) s.ports.a.data k) (lane (shapeWidth sh) s.ports.b.data k)) := by
  obtain ⟨h1, h2⟩ := checks_two _ _ _ h.1 h.2
  rw [State.compare, issue_of_passed _ _ _ h1 h2]
  exact ⟨deliver_delivered _ _, fun k hk => lane_vec_shape sh _ k hk⟩

/-- SWIZZLE delivers when its indices are in range. -/
theorem swizzle_spec (s : State) (sh : Shape) (h : ReadyA s sh) (hi : IndicesBelow s sh (shapeLanes sh)) :
    Delivered s (s.swizzle sh) (Shape.tag sh) ∧ ∀ k, k < shapeLanes sh →
      lane (shapeWidth sh) (s.swizzle sh).resData k =
        lane (shapeWidth sh) s.ports.a.data (laneIndex s.ports.idx k) := by
  obtain ⟨h1, h2⟩ := checks_one _ _ h
  rw [State.swizzle, (rangeFault_eq_false_iff _ _ _).2 hi, issue_of_passed _ _ _ h1 h2]
  exact ⟨deliver_delivered _ _, fun k hk => lane_vec_shape sh _ k hk⟩

/-- SHUFFLE delivers when its indices are in range. -/
theorem shuffle_spec (s : State) (sh : Shape) (h : ReadyAB s sh) (hi : IndicesBelow s sh (2 * shapeLanes sh)) :
    Delivered s (s.shuffle sh) (Shape.tag sh) ∧ ∀ k, k < shapeLanes sh →
      lane (shapeWidth sh) (s.shuffle sh).resData k =
        shuffleLane sh s.ports.a.data s.ports.b.data (laneIndex s.ports.idx k) := by
  obtain ⟨h1, h2⟩ := checks_two _ _ _ h.1 h.2
  rw [State.shuffle, (rangeFault_eq_false_iff _ _ _).2 hi, issue_of_passed _ _ _ h1 h2]
  exact ⟨deliver_delivered _ _, fun k hk => lane_vec_shape sh _ k hk⟩

/-- SELECT delivers, lane by lane. -/
theorem select_spec (s : State) (sh : Shape) (ha : HoldsMask s.ports.a sh) (hb : Holds s.ports.b sh)
    (hc : Holds s.ports.c sh) :
    Delivered s (s.select sh) (Shape.tag sh) ∧ ∀ k, k < shapeLanes sh →
      lane (shapeWidth sh) (s.select sh).resData k =
        if lane (shapeWidth sh) s.ports.a.data k = BitVec.allOnes (shapeWidth sh)
        then lane (shapeWidth sh) s.ports.b.data k else lane (shapeWidth sh) s.ports.c.data k := by
  have h1 : typeFault [needMaskOf s.ports.a sh, needShape s.ports.b sh, needShape s.ports.c sh] = false := by
    rw [typeFault_eq_false_iff]; simp only [List.mem_cons, List.not_mem_nil, or_false, forall_eq_or_imp, forall_eq]
    exact ⟨(isValue_iff_proper _).2 ha.2, (isValue_iff_proper _).2 hb.2, (isValue_iff_proper _).2 hc.2⟩
  have h2 : shapeFault [needMaskOf s.ports.a sh, needShape s.ports.b sh, needShape s.ports.c sh] = false := by
    rw [shapeFault_eq_false_iff]; simp only [List.mem_cons, List.not_mem_nil, or_false, forall_eq_or_imp, forall_eq]
    exact ⟨fun t ht => by cases ht; exact ha.1, fun t ht => by cases ht; exact hb.1, fun t ht => by cases ht; exact hc.1⟩
  rw [State.select, issue_of_passed _ _ _ h1 h2]
  exact ⟨deliver_delivered _ _, fun k hk => lane_vec_shape sh _ k hk⟩

/-- BITSELECT delivers the blend of the words. -/
theorem bitSelect_spec (s : State) (sh : Shape) (ha : Proper s.ports.a) (hb : Holds s.ports.b sh)
    (hc : Holds s.ports.c sh) :
    Delivered s (s.bitSelect sh) (Shape.tag sh) ∧ (s.bitSelect sh).resData =
      (s.ports.b.data &&& s.ports.a.data) ||| (s.ports.c.data &&& ~~~s.ports.a.data) := by
  have h1 : typeFault [needAny s.ports.a, needShape s.ports.b sh, needShape s.ports.c sh] = false := by
    rw [typeFault_eq_false_iff]; simp only [List.mem_cons, List.not_mem_nil, or_false, forall_eq_or_imp, forall_eq]
    exact ⟨(isValue_iff_proper _).2 ha, (isValue_iff_proper _).2 hb.2, (isValue_iff_proper _).2 hc.2⟩
  have h2 : shapeFault [needAny s.ports.a, needShape s.ports.b sh, needShape s.ports.c sh] = false := by
    rw [shapeFault_eq_false_iff]; simp only [List.mem_cons, List.not_mem_nil, or_false, forall_eq_or_imp, forall_eq]
    refine ⟨?_, ?_, ?_⟩ <;> intro t ht <;> cases ht
    · exact hb.1
    · exact hc.1
  rw [State.bitSelect, issue_of_passed _ _ _ h1 h2]
  exact ⟨deliver_delivered _ _, rfl⟩

/-- A conversion delivers, lane by lane, with zero in the lanes that have no source. -/
theorem convert_spec (s : State) (dst src : Shape) (conv : BitVec (shapeWidth src) → BitVec (shapeWidth dst))
    (h : ReadyA s src) :
    Delivered s (s.convert dst src conv) (Shape.tag dst) ∧ ∀ k, k < shapeLanes dst →
      lane (shapeWidth dst) (s.convert dst src conv).resData k =
        if k < shapeLanes src then conv (lane (shapeWidth src) s.ports.a.data k) else 0#(shapeWidth dst) := by
  obtain ⟨h1, h2⟩ := checks_one _ _ h
  rw [State.convert, issue_of_passed _ _ _ h1 h2]
  exact ⟨deliver_delivered _ _, fun k hk => lane_vec_shape dst _ k hk⟩

/-- The retagging form delivers the operand's data. -/
theorem retag_spec (s : State) (dst src : Shape) (h : ReadyA s src) :
    Delivered s (s.retag dst src) (Shape.tag dst) ∧ (s.retag dst src).resData = s.ports.a.data := by
  obtain ⟨h1, h2⟩ := checks_one _ _ h
  rw [State.retag, issue_of_passed _ _ _ h1 h2]
  exact ⟨deliver_delivered _ _, rfl⟩

/-- CHECK passes a value of the shape and raises TypeMismatch on everything else. -/
theorem check_spec (s : State) (sh : Shape) :
    (ReadyA s sh ∧ s.check sh = s.deliver ⟨Shape.tag sh, s.ports.a.data⟩) ∨
      (¬ ReadyA s sh ∧ s.check sh = s.raiseError .typeMismatch) := by
  have hv : typeFault [needAny s.ports.a] = !isValue s.ports.a := by simp [typeFault, needAny]
  unfold State.check ReadyA Holds
  rw [hv, ← isValue_iff_proper]
  cases h : isValue s.ports.a <;> by_cases h' : s.ports.a.tag = Shape.tag sh
  · exact .inr ⟨fun hh => absurd hh.2 (by simp), by simp⟩
  · exact .inr ⟨fun hh => absurd hh.2 (by simp), by simp⟩
  · exact .inl ⟨⟨h', rfl⟩, by simp [h']⟩
  · exact .inr ⟨fun hh => h' hh.1, by simp [h']⟩

end Sys2Proof.Machine
end

