-- ==== Sys2Proof/Laws/Exec.lean ====
section
/-! SUPPORT. Each instruction's meaning as the shared operand form it is, so that no proof unfolds exec. -/
namespace Sys2Proof.Machine

theorem exec_addF64x2 (s : State) : exec .addF64x2 s = .next (s.binary .f64x2 (floatAdd binary64)) := rfl
theorem exec_addF32x4 (s : State) : exec .addF32x4 s = .next (s.binary .f32x4 (floatAdd binary32)) := rfl
theorem exec_addI32x4 (s : State) : exec .addI32x4 s = .next (s.binary .i32x4 intAdd) := rfl
theorem exec_addI16x8 (s : State) : exec .addI16x8 s = .next (s.binary .i16x8 intAdd) := rfl
theorem exec_addI8x16 (s : State) : exec .addI8x16 s = .next (s.binary .i8x16 intAdd) := rfl
theorem exec_subF64x2 (s : State) : exec .subF64x2 s = .next (s.binary .f64x2 (floatSub binary64)) := rfl
theorem exec_subF32x4 (s : State) : exec .subF32x4 s = .next (s.binary .f32x4 (floatSub binary32)) := rfl
theorem exec_subI32x4 (s : State) : exec .subI32x4 s = .next (s.binary .i32x4 intSub) := rfl
theorem exec_subI16x8 (s : State) : exec .subI16x8 s = .next (s.binary .i16x8 intSub) := rfl
theorem exec_subI8x16 (s : State) : exec .subI8x16 s = .next (s.binary .i8x16 intSub) := rfl
theorem exec_mulF64x2 (s : State) : exec .mulF64x2 s = .next (s.binary .f64x2 (floatMul binary64)) := rfl
theorem exec_mulF32x4 (s : State) : exec .mulF32x4 s = .next (s.binary .f32x4 (floatMul binary32)) := rfl
theorem exec_mulI32x4 (s : State) : exec .mulI32x4 s = .next (s.binary .i32x4 intMul) := rfl
theorem exec_mulI16x8 (s : State) : exec .mulI16x8 s = .next (s.binary .i16x8 intMul) := rfl
theorem exec_mulI8x16 (s : State) : exec .mulI8x16 s = .next (s.binary .i8x16 intMul) := rfl
theorem exec_divF64x2 (s : State) : exec .divF64x2 s = .next (s.binary .f64x2 (floatDiv binary64)) := rfl
theorem exec_divF32x4 (s : State) : exec .divF32x4 s = .next (s.binary .f32x4 (floatDiv binary32)) := rfl
theorem exec_divI32x4 (s : State) : exec .divI32x4 s = .next (s.binary .i32x4 intDiv) := rfl
theorem exec_divI16x8 (s : State) : exec .divI16x8 s = .next (s.binary .i16x8 intDiv) := rfl
theorem exec_divI8x16 (s : State) : exec .divI8x16 s = .next (s.binary .i8x16 intDiv) := rfl
theorem exec_absF64x2 (s : State) : exec .absF64x2 s = .next (s.unary .f64x2 floatAbs) := rfl
theorem exec_absF32x4 (s : State) : exec .absF32x4 s = .next (s.unary .f32x4 floatAbs) := rfl
theorem exec_absI32x4 (s : State) : exec .absI32x4 s = .next (s.unary .i32x4 intAbs) := rfl
theorem exec_absI16x8 (s : State) : exec .absI16x8 s = .next (s.unary .i16x8 intAbs) := rfl
theorem exec_absI8x16 (s : State) : exec .absI8x16 s = .next (s.unary .i8x16 intAbs) := rfl
theorem exec_negF64x2 (s : State) : exec .negF64x2 s = .next (s.unary .f64x2 floatNeg) := rfl
theorem exec_negF32x4 (s : State) : exec .negF32x4 s = .next (s.unary .f32x4 floatNeg) := rfl
theorem exec_negI32x4 (s : State) : exec .negI32x4 s = .next (s.unary .i32x4 intNeg) := rfl
theorem exec_negI16x8 (s : State) : exec .negI16x8 s = .next (s.unary .i16x8 intNeg) := rfl
theorem exec_negI8x16 (s : State) : exec .negI8x16 s = .next (s.unary .i8x16 intNeg) := rfl
theorem exec_minF64x2 (s : State) : exec .minF64x2 s = .next (s.binary .f64x2 (floatMin binary64)) := rfl
theorem exec_minF32x4 (s : State) : exec .minF32x4 s = .next (s.binary .f32x4 (floatMin binary32)) := rfl
theorem exec_minI32x4 (s : State) : exec .minI32x4 s = .next (s.binary .i32x4 intMin) := rfl
theorem exec_minI16x8 (s : State) : exec .minI16x8 s = .next (s.binary .i16x8 intMin) := rfl
theorem exec_minI8x16 (s : State) : exec .minI8x16 s = .next (s.binary .i8x16 intMin) := rfl
theorem exec_maxF64x2 (s : State) : exec .maxF64x2 s = .next (s.binary .f64x2 (floatMax binary64)) := rfl
theorem exec_maxF32x4 (s : State) : exec .maxF32x4 s = .next (s.binary .f32x4 (floatMax binary32)) := rfl
theorem exec_maxI32x4 (s : State) : exec .maxI32x4 s = .next (s.binary .i32x4 intMax) := rfl
theorem exec_maxI16x8 (s : State) : exec .maxI16x8 s = .next (s.binary .i16x8 intMax) := rfl
theorem exec_maxI8x16 (s : State) : exec .maxI8x16 s = .next (s.binary .i8x16 intMax) := rfl
theorem exec_minnumF64x2 (s : State) : exec .minnumF64x2 s = .next (s.binary .f64x2 (floatMinNum binary64)) := rfl
theorem exec_minnumF32x4 (s : State) : exec .minnumF32x4 s = .next (s.binary .f32x4 (floatMinNum binary32)) := rfl
theorem exec_maxnumF64x2 (s : State) : exec .maxnumF64x2 s = .next (s.binary .f64x2 (floatMaxNum binary64)) := rfl
theorem exec_maxnumF32x4 (s : State) : exec .maxnumF32x4 s = .next (s.binary .f32x4 (floatMaxNum binary32)) := rfl
theorem exec_clampF64x2 (s : State) : exec .clampF64x2 s = .next (s.ternary .f64x2 (floatClamp binary64)) := rfl
theorem exec_clampF32x4 (s : State) : exec .clampF32x4 s = .next (s.ternary .f32x4 (floatClamp binary32)) := rfl
theorem exec_clampI32x4 (s : State) : exec .clampI32x4 s = .next (s.ternary .i32x4 intClamp) := rfl
theorem exec_clampI16x8 (s : State) : exec .clampI16x8 s = .next (s.ternary .i16x8 intClamp) := rfl
theorem exec_clampI8x16 (s : State) : exec .clampI8x16 s = .next (s.ternary .i8x16 intClamp) := rfl
theorem exec_sqrtF64x2 (s : State) : exec .sqrtF64x2 s = .next (s.unary .f64x2 (floatSqrt binary64)) := rfl
theorem exec_sqrtF32x4 (s : State) : exec .sqrtF32x4 s = .next (s.unary .f32x4 (floatSqrt binary32)) := rfl
theorem exec_rcpaF64x2 (s : State) : exec .rcpaF64x2 s = .next (s.unary .f64x2 (floatRcp binary64 Config.rcp64)) := rfl
theorem exec_rcpaF32x4 (s : State) : exec .rcpaF32x4 s = .next (s.unary .f32x4 (floatRcp binary32 Config.rcp32)) := rfl
theorem exec_rsqaF64x2 (s : State) : exec .rsqaF64x2 s = .next (s.unary .f64x2 (floatRsqrt binary64 Config.rsqrt64)) := rfl
theorem exec_rsqaF32x4 (s : State) : exec .rsqaF32x4 s = .next (s.unary .f32x4 (floatRsqrt binary32 Config.rsqrt32)) := rfl
theorem exec_andF64x2 (s : State) : exec .andF64x2 s = .next (s.binaryWord .f64x2 wordAnd) := rfl
theorem exec_andF32x4 (s : State) : exec .andF32x4 s = .next (s.binaryWord .f32x4 wordAnd) := rfl
theorem exec_andI32x4 (s : State) : exec .andI32x4 s = .next (s.binaryWord .i32x4 wordAnd) := rfl
theorem exec_andI16x8 (s : State) : exec .andI16x8 s = .next (s.binaryWord .i16x8 wordAnd) := rfl
theorem exec_andI8x16 (s : State) : exec .andI8x16 s = .next (s.binaryWord .i8x16 wordAnd) := rfl
theorem exec_andM64x2 (s : State) : exec .andM64x2 s = .next (s.binaryWord .m64x2 wordAnd) := rfl
theorem exec_andM32x4 (s : State) : exec .andM32x4 s = .next (s.binaryWord .m32x4 wordAnd) := rfl
theorem exec_andM16x8 (s : State) : exec .andM16x8 s = .next (s.binaryWord .m16x8 wordAnd) := rfl
theorem exec_andM8x16 (s : State) : exec .andM8x16 s = .next (s.binaryWord .m8x16 wordAnd) := rfl
theorem exec_orF64x2 (s : State) : exec .orF64x2 s = .next (s.binaryWord .f64x2 wordOr) := rfl
theorem exec_orF32x4 (s : State) : exec .orF32x4 s = .next (s.binaryWord .f32x4 wordOr) := rfl
theorem exec_orI32x4 (s : State) : exec .orI32x4 s = .next (s.binaryWord .i32x4 wordOr) := rfl
theorem exec_orI16x8 (s : State) : exec .orI16x8 s = .next (s.binaryWord .i16x8 wordOr) := rfl
theorem exec_orI8x16 (s : State) : exec .orI8x16 s = .next (s.binaryWord .i8x16 wordOr) := rfl
theorem exec_orM64x2 (s : State) : exec .orM64x2 s = .next (s.binaryWord .m64x2 wordOr) := rfl
theorem exec_orM32x4 (s : State) : exec .orM32x4 s = .next (s.binaryWord .m32x4 wordOr) := rfl
theorem exec_orM16x8 (s : State) : exec .orM16x8 s = .next (s.binaryWord .m16x8 wordOr) := rfl
theorem exec_orM8x16 (s : State) : exec .orM8x16 s = .next (s.binaryWord .m8x16 wordOr) := rfl
theorem exec_xorF64x2 (s : State) : exec .xorF64x2 s = .next (s.binaryWord .f64x2 wordXor) := rfl
theorem exec_xorF32x4 (s : State) : exec .xorF32x4 s = .next (s.binaryWord .f32x4 wordXor) := rfl
theorem exec_xorI32x4 (s : State) : exec .xorI32x4 s = .next (s.binaryWord .i32x4 wordXor) := rfl
theorem exec_xorI16x8 (s : State) : exec .xorI16x8 s = .next (s.binaryWord .i16x8 wordXor) := rfl
theorem exec_xorI8x16 (s : State) : exec .xorI8x16 s = .next (s.binaryWord .i8x16 wordXor) := rfl
theorem exec_xorM64x2 (s : State) : exec .xorM64x2 s = .next (s.binaryWord .m64x2 wordXor) := rfl
theorem exec_xorM32x4 (s : State) : exec .xorM32x4 s = .next (s.binaryWord .m32x4 wordXor) := rfl
theorem exec_xorM16x8 (s : State) : exec .xorM16x8 s = .next (s.binaryWord .m16x8 wordXor) := rfl
theorem exec_xorM8x16 (s : State) : exec .xorM8x16 s = .next (s.binaryWord .m8x16 wordXor) := rfl
theorem exec_notF64x2 (s : State) : exec .notF64x2 s = .next (s.unaryWord .f64x2 wordNot) := rfl
theorem exec_notF32x4 (s : State) : exec .notF32x4 s = .next (s.unaryWord .f32x4 wordNot) := rfl
theorem exec_notI32x4 (s : State) : exec .notI32x4 s = .next (s.unaryWord .i32x4 wordNot) := rfl
theorem exec_notI16x8 (s : State) : exec .notI16x8 s = .next (s.unaryWord .i16x8 wordNot) := rfl
theorem exec_notI8x16 (s : State) : exec .notI8x16 s = .next (s.unaryWord .i8x16 wordNot) := rfl
theorem exec_notM64x2 (s : State) : exec .notM64x2 s = .next (s.unaryWord .m64x2 wordNot) := rfl
theorem exec_notM32x4 (s : State) : exec .notM32x4 s = .next (s.unaryWord .m32x4 wordNot) := rfl
theorem exec_notM16x8 (s : State) : exec .notM16x8 s = .next (s.unaryWord .m16x8 wordNot) := rfl
theorem exec_notM8x16 (s : State) : exec .notM8x16 s = .next (s.unaryWord .m8x16 wordNot) := rfl
theorem exec_ltF64x2 (s : State) : exec .ltF64x2 s = .next (s.compare .f64x2 (floatLt binary64)) := rfl
theorem exec_ltF32x4 (s : State) : exec .ltF32x4 s = .next (s.compare .f32x4 (floatLt binary32)) := rfl
theorem exec_ltI32x4 (s : State) : exec .ltI32x4 s = .next (s.compare .i32x4 intLt) := rfl
theorem exec_ltI16x8 (s : State) : exec .ltI16x8 s = .next (s.compare .i16x8 intLt) := rfl
theorem exec_ltI8x16 (s : State) : exec .ltI8x16 s = .next (s.compare .i8x16 intLt) := rfl
theorem exec_leF64x2 (s : State) : exec .leF64x2 s = .next (s.compare .f64x2 (floatLe binary64)) := rfl
theorem exec_leF32x4 (s : State) : exec .leF32x4 s = .next (s.compare .f32x4 (floatLe binary32)) := rfl
theorem exec_leI32x4 (s : State) : exec .leI32x4 s = .next (s.compare .i32x4 intLe) := rfl
theorem exec_leI16x8 (s : State) : exec .leI16x8 s = .next (s.compare .i16x8 intLe) := rfl
theorem exec_leI8x16 (s : State) : exec .leI8x16 s = .next (s.compare .i8x16 intLe) := rfl
theorem exec_eqF64x2 (s : State) : exec .eqF64x2 s = .next (s.compare .f64x2 (floatEq binary64)) := rfl
theorem exec_eqF32x4 (s : State) : exec .eqF32x4 s = .next (s.compare .f32x4 (floatEq binary32)) := rfl
theorem exec_eqI32x4 (s : State) : exec .eqI32x4 s = .next (s.compare .i32x4 intEq) := rfl
theorem exec_eqI16x8 (s : State) : exec .eqI16x8 s = .next (s.compare .i16x8 intEq) := rfl
theorem exec_eqI8x16 (s : State) : exec .eqI8x16 s = .next (s.compare .i8x16 intEq) := rfl
theorem exec_neF64x2 (s : State) : exec .neF64x2 s = .next (s.compare .f64x2 (floatNe binary64)) := rfl
theorem exec_neF32x4 (s : State) : exec .neF32x4 s = .next (s.compare .f32x4 (floatNe binary32)) := rfl
theorem exec_neI32x4 (s : State) : exec .neI32x4 s = .next (s.compare .i32x4 intNe) := rfl
theorem exec_neI16x8 (s : State) : exec .neI16x8 s = .next (s.compare .i16x8 intNe) := rfl
theorem exec_neI8x16 (s : State) : exec .neI8x16 s = .next (s.compare .i8x16 intNe) := rfl
theorem exec_gtF64x2 (s : State) : exec .gtF64x2 s = .next (s.compare .f64x2 (floatGt binary64)) := rfl
theorem exec_gtF32x4 (s : State) : exec .gtF32x4 s = .next (s.compare .f32x4 (floatGt binary32)) := rfl
theorem exec_gtI32x4 (s : State) : exec .gtI32x4 s = .next (s.compare .i32x4 intGt) := rfl
theorem exec_gtI16x8 (s : State) : exec .gtI16x8 s = .next (s.compare .i16x8 intGt) := rfl
theorem exec_gtI8x16 (s : State) : exec .gtI8x16 s = .next (s.compare .i8x16 intGt) := rfl
theorem exec_geF64x2 (s : State) : exec .geF64x2 s = .next (s.compare .f64x2 (floatGe binary64)) := rfl
theorem exec_geF32x4 (s : State) : exec .geF32x4 s = .next (s.compare .f32x4 (floatGe binary32)) := rfl
theorem exec_geI32x4 (s : State) : exec .geI32x4 s = .next (s.compare .i32x4 intGe) := rfl
theorem exec_geI16x8 (s : State) : exec .geI16x8 s = .next (s.compare .i16x8 intGe) := rfl
theorem exec_geI8x16 (s : State) : exec .geI8x16 s = .next (s.compare .i8x16 intGe) := rfl
theorem exec_swizzleF64x2 (s : State) : exec .swizzleF64x2 s = .next (s.swizzle .f64x2) := rfl
theorem exec_swizzleF32x4 (s : State) : exec .swizzleF32x4 s = .next (s.swizzle .f32x4) := rfl
theorem exec_swizzleI32x4 (s : State) : exec .swizzleI32x4 s = .next (s.swizzle .i32x4) := rfl
theorem exec_swizzleI16x8 (s : State) : exec .swizzleI16x8 s = .next (s.swizzle .i16x8) := rfl
theorem exec_swizzleI8x16 (s : State) : exec .swizzleI8x16 s = .next (s.swizzle .i8x16) := rfl
theorem exec_swizzleM64x2 (s : State) : exec .swizzleM64x2 s = .next (s.swizzle .m64x2) := rfl
theorem exec_swizzleM32x4 (s : State) : exec .swizzleM32x4 s = .next (s.swizzle .m32x4) := rfl
theorem exec_swizzleM16x8 (s : State) : exec .swizzleM16x8 s = .next (s.swizzle .m16x8) := rfl
theorem exec_swizzleM8x16 (s : State) : exec .swizzleM8x16 s = .next (s.swizzle .m8x16) := rfl
theorem exec_shuffleF64x2 (s : State) : exec .shuffleF64x2 s = .next (s.shuffle .f64x2) := rfl
theorem exec_shuffleF32x4 (s : State) : exec .shuffleF32x4 s = .next (s.shuffle .f32x4) := rfl
theorem exec_shuffleI32x4 (s : State) : exec .shuffleI32x4 s = .next (s.shuffle .i32x4) := rfl
theorem exec_shuffleI16x8 (s : State) : exec .shuffleI16x8 s = .next (s.shuffle .i16x8) := rfl
theorem exec_shuffleI8x16 (s : State) : exec .shuffleI8x16 s = .next (s.shuffle .i8x16) := rfl
theorem exec_shuffleM64x2 (s : State) : exec .shuffleM64x2 s = .next (s.shuffle .m64x2) := rfl
theorem exec_shuffleM32x4 (s : State) : exec .shuffleM32x4 s = .next (s.shuffle .m32x4) := rfl
theorem exec_shuffleM16x8 (s : State) : exec .shuffleM16x8 s = .next (s.shuffle .m16x8) := rfl
theorem exec_shuffleM8x16 (s : State) : exec .shuffleM8x16 s = .next (s.shuffle .m8x16) := rfl
theorem exec_selectF64x2 (s : State) : exec .selectF64x2 s = .next (s.select .f64x2) := rfl
theorem exec_selectF32x4 (s : State) : exec .selectF32x4 s = .next (s.select .f32x4) := rfl
theorem exec_selectI32x4 (s : State) : exec .selectI32x4 s = .next (s.select .i32x4) := rfl
theorem exec_selectI16x8 (s : State) : exec .selectI16x8 s = .next (s.select .i16x8) := rfl
theorem exec_selectI8x16 (s : State) : exec .selectI8x16 s = .next (s.select .i8x16) := rfl
theorem exec_selectM64x2 (s : State) : exec .selectM64x2 s = .next (s.select .m64x2) := rfl
theorem exec_selectM32x4 (s : State) : exec .selectM32x4 s = .next (s.select .m32x4) := rfl
theorem exec_selectM16x8 (s : State) : exec .selectM16x8 s = .next (s.select .m16x8) := rfl
theorem exec_selectM8x16 (s : State) : exec .selectM8x16 s = .next (s.select .m8x16) := rfl
theorem exec_bitselectF64x2 (s : State) : exec .bitselectF64x2 s = .next (s.bitSelect .f64x2) := rfl
theorem exec_bitselectF32x4 (s : State) : exec .bitselectF32x4 s = .next (s.bitSelect .f32x4) := rfl
theorem exec_bitselectI32x4 (s : State) : exec .bitselectI32x4 s = .next (s.bitSelect .i32x4) := rfl
theorem exec_bitselectI16x8 (s : State) : exec .bitselectI16x8 s = .next (s.bitSelect .i16x8) := rfl
theorem exec_bitselectI8x16 (s : State) : exec .bitselectI8x16 s = .next (s.bitSelect .i8x16) := rfl
theorem exec_cvtF64x2F64x2 (s : State) : exec .cvtF64x2F64x2 s = .next (s.retag .f64x2 .f64x2) := rfl
theorem exec_cvtF64x2F32x4 (s : State) : exec .cvtF64x2F32x4 s = .next (s.convert .f64x2 .f32x4 (convFloatToFloat binary32 binary64 64)) := rfl
theorem exec_cvtF64x2I32x4 (s : State) : exec .cvtF64x2I32x4 s = .next (s.convert .f64x2 .i32x4 (convIntToFloat binary64 64)) := rfl
theorem exec_cvtF64x2I16x8 (s : State) : exec .cvtF64x2I16x8 s = .next (s.convert .f64x2 .i16x8 (convIntToFloat binary64 64)) := rfl
theorem exec_cvtF64x2I8x16 (s : State) : exec .cvtF64x2I8x16 s = .next (s.convert .f64x2 .i8x16 (convIntToFloat binary64 64)) := rfl
theorem exec_cvtF32x4F64x2 (s : State) : exec .cvtF32x4F64x2 s = .next (s.convert .f32x4 .f64x2 (convFloatToFloat binary64 binary32 32)) := rfl
theorem exec_cvtF32x4F32x4 (s : State) : exec .cvtF32x4F32x4 s = .next (s.retag .f32x4 .f32x4) := rfl
theorem exec_cvtF32x4I32x4 (s : State) : exec .cvtF32x4I32x4 s = .next (s.convert .f32x4 .i32x4 (convIntToFloat binary32 32)) := rfl
theorem exec_cvtF32x4I16x8 (s : State) : exec .cvtF32x4I16x8 s = .next (s.convert .f32x4 .i16x8 (convIntToFloat binary32 32)) := rfl
theorem exec_cvtF32x4I8x16 (s : State) : exec .cvtF32x4I8x16 s = .next (s.convert .f32x4 .i8x16 (convIntToFloat binary32 32)) := rfl
theorem exec_cvtI32x4F64x2 (s : State) : exec .cvtI32x4F64x2 s = .next (s.convert .i32x4 .f64x2 (convFloatToInt binary64 32)) := rfl
theorem exec_cvtI32x4F32x4 (s : State) : exec .cvtI32x4F32x4 s = .next (s.convert .i32x4 .f32x4 (convFloatToInt binary32 32)) := rfl
theorem exec_cvtI32x4I32x4 (s : State) : exec .cvtI32x4I32x4 s = .next (s.retag .i32x4 .i32x4) := rfl
theorem exec_cvtI32x4I16x8 (s : State) : exec .cvtI32x4I16x8 s = .next (s.convert .i32x4 .i16x8 (convSignExtend 32)) := rfl
theorem exec_cvtI32x4I8x16 (s : State) : exec .cvtI32x4I8x16 s = .next (s.convert .i32x4 .i8x16 (convSignExtend 32)) := rfl
theorem exec_cvtI16x8F64x2 (s : State) : exec .cvtI16x8F64x2 s = .next (s.convert .i16x8 .f64x2 (convFloatToInt binary64 16)) := rfl
theorem exec_cvtI16x8F32x4 (s : State) : exec .cvtI16x8F32x4 s = .next (s.convert .i16x8 .f32x4 (convFloatToInt binary32 16)) := rfl
theorem exec_cvtI16x8I32x4 (s : State) : exec .cvtI16x8I32x4 s = .next (s.convert .i16x8 .i32x4 (convTruncate 16)) := rfl
theorem exec_cvtI16x8I16x8 (s : State) : exec .cvtI16x8I16x8 s = .next (s.retag .i16x8 .i16x8) := rfl
theorem exec_cvtI16x8I8x16 (s : State) : exec .cvtI16x8I8x16 s = .next (s.convert .i16x8 .i8x16 (convSignExtend 16)) := rfl
theorem exec_cvtI8x16F64x2 (s : State) : exec .cvtI8x16F64x2 s = .next (s.convert .i8x16 .f64x2 (convFloatToInt binary64 8)) := rfl
theorem exec_cvtI8x16F32x4 (s : State) : exec .cvtI8x16F32x4 s = .next (s.convert .i8x16 .f32x4 (convFloatToInt binary32 8)) := rfl
theorem exec_cvtI8x16I32x4 (s : State) : exec .cvtI8x16I32x4 s = .next (s.convert .i8x16 .i32x4 (convTruncate 8)) := rfl
theorem exec_cvtI8x16I16x8 (s : State) : exec .cvtI8x16I16x8 s = .next (s.convert .i8x16 .i16x8 (convTruncate 8)) := rfl
theorem exec_cvtI8x16I8x16 (s : State) : exec .cvtI8x16I8x16 s = .next (s.retag .i8x16 .i8x16) := rfl
theorem exec_bitcastF64x2F64x2 (s : State) : exec .bitcastF64x2F64x2 s = .next (s.retag .f64x2 .f64x2) := rfl
theorem exec_bitcastF64x2F32x4 (s : State) : exec .bitcastF64x2F32x4 s = .next (s.retag .f64x2 .f32x4) := rfl
theorem exec_bitcastF64x2I32x4 (s : State) : exec .bitcastF64x2I32x4 s = .next (s.retag .f64x2 .i32x4) := rfl
theorem exec_bitcastF64x2I16x8 (s : State) : exec .bitcastF64x2I16x8 s = .next (s.retag .f64x2 .i16x8) := rfl
theorem exec_bitcastF64x2I8x16 (s : State) : exec .bitcastF64x2I8x16 s = .next (s.retag .f64x2 .i8x16) := rfl
theorem exec_bitcastF32x4F64x2 (s : State) : exec .bitcastF32x4F64x2 s = .next (s.retag .f32x4 .f64x2) := rfl
theorem exec_bitcastF32x4F32x4 (s : State) : exec .bitcastF32x4F32x4 s = .next (s.retag .f32x4 .f32x4) := rfl
theorem exec_bitcastF32x4I32x4 (s : State) : exec .bitcastF32x4I32x4 s = .next (s.retag .f32x4 .i32x4) := rfl
theorem exec_bitcastF32x4I16x8 (s : State) : exec .bitcastF32x4I16x8 s = .next (s.retag .f32x4 .i16x8) := rfl
theorem exec_bitcastF32x4I8x16 (s : State) : exec .bitcastF32x4I8x16 s = .next (s.retag .f32x4 .i8x16) := rfl
theorem exec_bitcastI32x4F64x2 (s : State) : exec .bitcastI32x4F64x2 s = .next (s.retag .i32x4 .f64x2) := rfl
theorem exec_bitcastI32x4F32x4 (s : State) : exec .bitcastI32x4F32x4 s = .next (s.retag .i32x4 .f32x4) := rfl
theorem exec_bitcastI32x4I32x4 (s : State) : exec .bitcastI32x4I32x4 s = .next (s.retag .i32x4 .i32x4) := rfl
theorem exec_bitcastI32x4I16x8 (s : State) : exec .bitcastI32x4I16x8 s = .next (s.retag .i32x4 .i16x8) := rfl
theorem exec_bitcastI32x4I8x16 (s : State) : exec .bitcastI32x4I8x16 s = .next (s.retag .i32x4 .i8x16) := rfl
theorem exec_bitcastI16x8F64x2 (s : State) : exec .bitcastI16x8F64x2 s = .next (s.retag .i16x8 .f64x2) := rfl
theorem exec_bitcastI16x8F32x4 (s : State) : exec .bitcastI16x8F32x4 s = .next (s.retag .i16x8 .f32x4) := rfl
theorem exec_bitcastI16x8I32x4 (s : State) : exec .bitcastI16x8I32x4 s = .next (s.retag .i16x8 .i32x4) := rfl
theorem exec_bitcastI16x8I16x8 (s : State) : exec .bitcastI16x8I16x8 s = .next (s.retag .i16x8 .i16x8) := rfl
theorem exec_bitcastI16x8I8x16 (s : State) : exec .bitcastI16x8I8x16 s = .next (s.retag .i16x8 .i8x16) := rfl
theorem exec_bitcastI8x16F64x2 (s : State) : exec .bitcastI8x16F64x2 s = .next (s.retag .i8x16 .f64x2) := rfl
theorem exec_bitcastI8x16F32x4 (s : State) : exec .bitcastI8x16F32x4 s = .next (s.retag .i8x16 .f32x4) := rfl
theorem exec_bitcastI8x16I32x4 (s : State) : exec .bitcastI8x16I32x4 s = .next (s.retag .i8x16 .i32x4) := rfl
theorem exec_bitcastI8x16I16x8 (s : State) : exec .bitcastI8x16I16x8 s = .next (s.retag .i8x16 .i16x8) := rfl
theorem exec_bitcastI8x16I8x16 (s : State) : exec .bitcastI8x16I8x16 s = .next (s.retag .i8x16 .i8x16) := rfl
theorem exec_checkF64x2 (s : State) : exec .checkF64x2 s = .next (s.check .f64x2) := rfl
theorem exec_checkF32x4 (s : State) : exec .checkF32x4 s = .next (s.check .f32x4) := rfl
theorem exec_checkI32x4 (s : State) : exec .checkI32x4 s = .next (s.check .i32x4) := rfl
theorem exec_checkI16x8 (s : State) : exec .checkI16x8 s = .next (s.check .i16x8) := rfl
theorem exec_checkI8x16 (s : State) : exec .checkI8x16 s = .next (s.check .i8x16) := rfl
theorem exec_checkM64x2 (s : State) : exec .checkM64x2 s = .next (s.check .m64x2) := rfl
theorem exec_checkM32x4 (s : State) : exec .checkM32x4 s = .next (s.check .m32x4) := rfl
theorem exec_checkM16x8 (s : State) : exec .checkM16x8 s = .next (s.check .m16x8) := rfl
theorem exec_checkM8x16 (s : State) : exec .checkM8x16 s = .next (s.check .m8x16) := rfl

end Sys2Proof.Machine
end

