-- ==== Sys2Proof/Laws/Float.lean ====
section
/-! SUPPORT. The pieces of rounding, each said once: the integer square root, the nearest natural, and what a sign and a
magnitude pattern stand for. -/
namespace Sys2Proof.Machine

/-- The search keeps `r * r ≤ n < (r + 2^b)^2`. -/
theorem isqrtBits_spec (n b r : Nat) (h1 : r * r ≤ n) (h2 : n < (r + 2 ^ b) * (r + 2 ^ b)) :
    isqrtBits n b r * isqrtBits n b r ≤ n ∧ n < (isqrtBits n b r + 1) * (isqrtBits n b r + 1) := by
  induction b generalizing r with
  | zero => exact ⟨h1, by simpa [isqrtBits] using h2⟩
  | succ b ih =>
    unfold isqrtBits
    split
    · rename_i h
      apply ih _ h
      have : r + 2 ^ b + 2 ^ b = r + 2 ^ (b + 1) := by rw [pow_succ]; omega
      rwa [this]
    · rename_i h
      exact ih _ h1 (by omega)

/-- `isqrt n` is the largest natural whose square is at most `n`. -/
theorem isqrt_spec (n : Nat) : isqrt n * isqrt n ≤ n ∧ n < (isqrt n + 1) * (isqrt n + 1) := by
  apply isqrtBits_spec
  · omega
  · have h : n < 2 ^ (Nat.log2 n + 1) := Nat.lt_log2_self
    have h' : 2 ^ (Nat.log2 n + 1) ≤ 2 ^ (Nat.log2 n / 2 + 1) * 2 ^ (Nat.log2 n / 2 + 1) := by
      rw [← pow_add]; exact Nat.pow_le_pow_right (by decide) (by omega)
    simpa using lt_of_lt_of_le h h'

/-- The nearest natural is within half the divisor of the exact quotient. -/
theorem nearestEven_error (n d : Nat) (hd : 0 < d) :
    2 * n ≤ 2 * (nearestEven n d * d) + d ∧ 2 * (nearestEven n d * d) ≤ 2 * n + d := by
  have h := Nat.div_add_mod n d
  have hm := Nat.mod_lt n hd
  have hc : n / d * d = d * (n / d) := Nat.mul_comm _ _
  unfold nearestEven
  split
  · rename_i hcase
    rw [Nat.add_mul, one_mul, hc]
    rcases hcase with hcase | ⟨hcase, _⟩ <;> omega
  · rename_i hcase
    rw [hc]
    have : 2 * (n % d) ≤ d := by
      by_contra hlt
      exact hcase (.inl (by omega))
    omega

/-- An exact quotient is its own nearest natural. -/
theorem nearestEven_mul (k d : Nat) (hd : 0 < d) : nearestEven (k * d) d = k := by
  unfold nearestEven
  have h1 : k * d % d = 0 := Nat.mul_mod_left k d
  have h2 : k * d / d = k := Nat.mul_div_cancel k hd
  rw [h1, h2]
  simp only [Nat.mul_zero, Nat.not_lt_zero, false_or]
  rw [if_neg (by omega)]

/-- A rounded magnitude is at most the infinity. -/
theorem roundPattern_le (fmt : FloatFormat) (n d : Nat) : roundPattern fmt n d ≤ infPattern fmt :=
  Nat.min_le_left _ _

theorem roundSqrtPattern_le (fmt : FloatFormat) (n d : Nat) : roundSqrtPattern fmt n d ≤ infPattern fmt :=
  Nat.min_le_left _ _

/-- Zero rounds to zero. -/
theorem roundPattern_zero (fmt : FloatFormat) (d : Nat) : roundPattern fmt 0 d = 0 := by
  have h : nearestEven 0 (d * 2 ^ 0) = 0 := by
    unfold nearestEven
    simp only [Nat.zero_mod, Nat.zero_div, Nat.mul_zero]
    rw [if_neg (by omega)]
  unfold roundPattern scaledPattern
  rw [Nat.zero_div, show Nat.log2 0 - fmt.fracBits = 0 by simp [Nat.log2_zero]]
  simp only [h, Nat.zero_mul, Nat.add_zero, Nat.min_zero]

/-- What a sign and a magnitude pattern stand for, in a format that fills its width. -/
theorem fval_withSign (fmt : FloatFormat) (w : Nat) (hw : w = fmt.expBits + fmt.fracBits + 1) (he : 0 < fmt.expBits)
    (neg : Bool) (p : Nat) (hp : p ≤ infPattern fmt) :
    fval fmt (withSign fmt w neg p) =
      if p = infPattern fmt then .inf neg else .fin neg (finMag fmt (p / 2 ^ fmt.fracBits) (p % 2 ^ fmt.fracBits)) := by
  have hF : 0 < 2 ^ fmt.fracBits := Nat.two_pow_pos _
  have hE : 0 < 2 ^ fmt.expBits := Nat.two_pow_pos _
  have hEF : 2 ^ (fmt.expBits + fmt.fracBits) = 2 ^ fmt.expBits * 2 ^ fmt.fracBits := pow_add _ _ _
  have hinf : infPattern fmt + 2 ^ fmt.fracBits = 2 ^ (fmt.expBits + fmt.fracBits) := by
    unfold infPattern
    rw [hEF, Nat.sub_mul, one_mul]
    exact Nat.sub_add_cancel (Nat.le_mul_of_pos_left _ hE)
  have hW : 2 ^ w = 2 * 2 ^ (fmt.expBits + fmt.fracBits) := by rw [hw, pow_succ]; omega
  have hnat : (withSign fmt w neg p).toNat = (if neg then 2 ^ (fmt.expBits + fmt.fracBits) else 0) + p := by
    unfold withSign
    rw [BitVec.toNat_ofNat]
    apply Nat.mod_eq_of_lt
    cases neg <;> simp <;> omega
  have hmsb : (withSign fmt w neg p).msb = neg := by
    rw [BitVec.msb_eq_decide, hnat]
    have hw1 : w - 1 = fmt.expBits + fmt.fracBits := by omega
    rw [hw1]
    cases neg <;> simp <;> omega
  have hfrac : (withSign fmt w neg p).toNat % 2 ^ fmt.fracBits = p % 2 ^ fmt.fracBits := by
    rw [hnat]
    cases neg
    · simp
    · simp only [if_true, hEF, Nat.mul_add_mod_self_right]
  have hexp : (withSign fmt w neg p).toNat / 2 ^ fmt.fracBits % 2 ^ fmt.expBits = p / 2 ^ fmt.fracBits := by
    have hlt : p / 2 ^ fmt.fracBits < 2 ^ fmt.expBits := by
      apply Nat.div_lt_of_lt_mul
      rw [Nat.mul_comm, ← hEF]; omega
    rw [hnat]
    cases neg
    · simp only [Bool.false_eq_true, if_false, Nat.zero_add]
      exact Nat.mod_eq_of_lt hlt
    · simp only [if_true, hEF]
      rw [Nat.mul_comm (2 ^ fmt.expBits), Nat.mul_add_div hF, Nat.add_mod_left]
      exact Nat.mod_eq_of_lt hlt
  unfold fval
  simp only [hfrac, hexp, hmsb]
  by_cases hpi : p = infPattern fmt
  · have h1 : p / 2 ^ fmt.fracBits = 2 ^ fmt.expBits - 1 := by
      rw [hpi]; unfold infPattern; exact Nat.mul_div_cancel _ hF
    have h2 : p % 2 ^ fmt.fracBits = 0 := by
      rw [hpi]; unfold infPattern; exact Nat.mul_mod_left _ _
    rw [if_pos h1, if_pos h2, if_pos hpi]
  · have h1 : p / 2 ^ fmt.fracBits ≠ 2 ^ fmt.expBits - 1 := by
      intro h
      have h3 := Nat.div_add_mod p (2 ^ fmt.fracBits)
      rw [h] at h3
      have h4 : 2 ^ fmt.fracBits * (2 ^ fmt.expBits - 1) = infPattern fmt := Nat.mul_comm _ _
      omega
    rw [if_neg h1, if_neg hpi]

end Sys2Proof.Machine
end

