-- ==== Sys2Proof/Laws/HostAgent.lean ====
section
/-! SUPPORT. The host's buffers and transfers: which buffer a shape may use, what overwriting leaves, the bounds check, and
how a transfer of another buffer kind ends. -/
namespace Sys2Proof.Machine

/-- A shape uses the buffers of its own element kind (20_memory.md R46). -/
theorem elems_isSome_iff (sh : Shape) (buf : Buffer) :
    (buf.elems sh).isSome = true ↔ elementKind sh = some buf.kind := by
  cases sh <;> cases buf <;>
    first | exact iff_of_true rfl rfl | exact iff_of_false (fun h => nomatch h) (fun h => nomatch h)

theorem elems_eq_none_iff (sh : Shape) (buf : Buffer) :
    buf.elems sh = none ↔ elementKind sh ≠ some buf.kind := by
  rw [← Option.not_isSome_iff_eq_none, elems_isSome_iff]

/-- The numeric shapes are those with an element kind. -/
theorem isNumeric_iff_kind (sh : Shape) : isNumeric sh = true ↔ ∃ k, elementKind sh = some k := by
  cases sh <;> simp [isNumeric, elementKind]

/-- Elements put into a buffer of the shape's kind are read back. -/
theorem elems_withElems (sh : Shape) (l : List (BitVec (shapeWidth sh))) (buf : Buffer)
    (h : elementKind sh = some buf.kind) : (buf.withElems sh l).elems sh = some l := by
  cases sh <;> first | rfl | cases h

/-- Putting elements into a buffer of the shape's kind keeps the kind. -/
theorem kind_withElems (sh : Shape) (l : List (BitVec (shapeWidth sh))) (buf : Buffer)
    (h : elementKind sh = some buf.kind) : (buf.withElems sh l).kind = buf.kind := by
  cases sh <;> first | exact Option.some.inj h | rfl

@[simp] theorem overwrite_length {α : Type} (l : List α) (i : Nat) (f : Nat → α) (n : Nat) :
    (overwrite l i f n).length = l.length := by
  induction n with
  | zero => rfl
  | succ n ih => simp [overwrite, ih]

/-- An overwritten element. -/
theorem overwrite_inside {α : Type} (l : List α) (i : Nat) (f : Nat → α) (n k : Nat) (hk : k < n)
    (hfit : i + n ≤ l.length) : (overwrite l i f n)[i + k]? = some (f k) := by
  induction n with
  | zero => omega
  | succ n ih =>
    rw [overwrite]
    by_cases h : k = n
    · subst h; exact List.getElem?_set_self (by rw [overwrite_length]; omega)
    · rw [List.getElem?_set_ne (by omega)]; exact ih (by omega) (by omega)

/-- An element outside the overwritten ones. -/
theorem overwrite_outside {α : Type} (l : List α) (i : Nat) (f : Nat → α) (n j : Nat)
    (h : ∀ k, k < n → j ≠ i + k) : (overwrite l i f n)[j]? = l[j]? := by
  induction n with
  | zero => rfl
  | succ n ih =>
    rw [overwrite, List.getElem?_set_ne (fun e => h n (by omega) e.symm)]
    exact ih fun k hk => h k (by omega)

/-- What the bounds check can answer (20_memory.md R47 to R51). -/
theorem checkBounds_cases (index : IndexArg) (n len : Nat) :
    (∃ i : Nat, index = .int i ∧ i + n ≤ len ∧ checkBounds index n len = .ok i) ∨
    ((∀ i : Nat, index = .int i → len < i + n) ∧ checkBounds index n len = .error .rangeError) := by
  cases index with
  | notInteger => exact .inr ⟨fun i h => (nomatch h), rfl⟩
  | int z =>
    by_cases hz : 0 ≤ z
    · obtain ⟨i, rfl⟩ := Int.eq_ofNat_of_zero_le hz
      by_cases hl : len < i + n
      · exact .inr ⟨fun j hj => by cases hj; exact hl, by simp [checkBounds, validIndex, hl]⟩
      · exact .inl ⟨i, rfl, by omega, by simp [checkBounds, validIndex, hl]⟩
    · refine .inr ⟨fun i h => ?_, by simp [checkBounds, validIndex, hz]⟩
      injection h with h; omega

/-- What reading elements can answer: no legal call, the value of the elements, or RangeError (20_memory.md R46 to R48,
R51). -/
theorem loadLanes_cases (sh : Shape) (n : Nat) (buf : Buffer) (index : IndexArg) :
    (elementKind sh ≠ some buf.kind ∧ loadLanes sh n buf index = .error .notACall) ∨
    ∃ l, elementKind sh = some buf.kind ∧ buf.elems sh = some l ∧
      ((∃ i : Nat, index = .int i ∧ i + n ≤ l.length ∧ loadLanes sh n buf index =
          .ok (valueOfLanes sh fun k => if k < n then l.getD (i + k) 0 else 0)) ∨
       ((∀ i : Nat, index = .int i → l.length < i + n) ∧ loadLanes sh n buf index = .error .rangeError)) := by
  cases he : buf.elems sh with
  | none => exact .inl ⟨(elems_eq_none_iff sh buf).1 he, by simp only [loadLanes, he]⟩
  | some l =>
    refine .inr ⟨l, (elems_isSome_iff sh buf).1 (by rw [he]; rfl), rfl, ?_⟩
    rcases checkBounds_cases index n l.length with ⟨i, hi, hle, hc⟩ | ⟨hi, hc⟩
    · exact .inl ⟨i, hi, hle, by simp only [loadLanes, he, hc]⟩
    · exact .inr ⟨hi, by simp only [loadLanes, he, hc]⟩

/-- What writing the lanes of a value of the shape can answer: no legal call, the overwritten buffer, or RangeError
(20_memory.md R46, R49 to R51). -/
theorem storeLanes_cases (sh : Shape) (n : Nat) (buf : Buffer) (index : IndexArg) (v : Value)
    (hv : v.tag = Shape.tag sh) :
    (elementKind sh ≠ some buf.kind ∧ storeLanes sh n buf index v = .error .notACall) ∨
    ∃ l, elementKind sh = some buf.kind ∧ buf.elems sh = some l ∧
      ((∃ i : Nat, index = .int i ∧ i + n ≤ l.length ∧ storeLanes sh n buf index v =
          .ok (buf.withElems sh (overwrite l i (fun k => lane (shapeWidth sh) v.data k) n))) ∨
       ((∀ i : Nat, index = .int i → l.length < i + n) ∧ storeLanes sh n buf index v = .error .rangeError)) := by
  cases he : buf.elems sh with
  | none => exact .inl ⟨(elems_eq_none_iff sh buf).1 he, by simp only [storeLanes, he]⟩
  | some l =>
    refine .inr ⟨l, (elems_isSome_iff sh buf).1 (by rw [he]; rfl), rfl, ?_⟩
    rcases checkBounds_cases index n l.length with ⟨i, hi, hle, hc⟩ | ⟨hi, hc⟩
    · exact .inl ⟨i, hi, hle, by simp only [storeLanes, he, hc, hv, if_true]⟩
    · exact .inr ⟨hi, by simp only [storeLanes, he, hc, hv, if_true]⟩

end Sys2Proof.Machine
end

