-- ==== Sys2Proof/Laws/PerInstr.lean ====
section
/-! SUPPORT. The per-instruction family EncodingLegal: the word the encoder writes for an instruction is legal by
30_encoding.md R64, as WellFormed.lean says it from the sets of R63. One lemma per constructor of `Instr`. -/
namespace Sys2Proof.Laws

/-- The word of the instruction is legal (30_encoding.md R64). -/
def EncodingLegal.Statement (i : Instr) : Prop := legalWord (encode i) = true

theorem EncodingLegal.addF64x2 : EncodingLegal.Statement .addF64x2 := by rfl
theorem EncodingLegal.addF32x4 : EncodingLegal.Statement .addF32x4 := by rfl
theorem EncodingLegal.addI32x4 : EncodingLegal.Statement .addI32x4 := by rfl
theorem EncodingLegal.addI16x8 : EncodingLegal.Statement .addI16x8 := by rfl
theorem EncodingLegal.addI8x16 : EncodingLegal.Statement .addI8x16 := by rfl
theorem EncodingLegal.subF64x2 : EncodingLegal.Statement .subF64x2 := by rfl
theorem EncodingLegal.subF32x4 : EncodingLegal.Statement .subF32x4 := by rfl
theorem EncodingLegal.subI32x4 : EncodingLegal.Statement .subI32x4 := by rfl
theorem EncodingLegal.subI16x8 : EncodingLegal.Statement .subI16x8 := by rfl
theorem EncodingLegal.subI8x16 : EncodingLegal.Statement .subI8x16 := by rfl
theorem EncodingLegal.mulF64x2 : EncodingLegal.Statement .mulF64x2 := by rfl
theorem EncodingLegal.mulF32x4 : EncodingLegal.Statement .mulF32x4 := by rfl
theorem EncodingLegal.mulI32x4 : EncodingLegal.Statement .mulI32x4 := by rfl
theorem EncodingLegal.mulI16x8 : EncodingLegal.Statement .mulI16x8 := by rfl
theorem EncodingLegal.mulI8x16 : EncodingLegal.Statement .mulI8x16 := by rfl
theorem EncodingLegal.divF64x2 : EncodingLegal.Statement .divF64x2 := by rfl
theorem EncodingLegal.divF32x4 : EncodingLegal.Statement .divF32x4 := by rfl
theorem EncodingLegal.divI32x4 : EncodingLegal.Statement .divI32x4 := by rfl
theorem EncodingLegal.divI16x8 : EncodingLegal.Statement .divI16x8 := by rfl
theorem EncodingLegal.divI8x16 : EncodingLegal.Statement .divI8x16 := by rfl
theorem EncodingLegal.absF64x2 : EncodingLegal.Statement .absF64x2 := by rfl
theorem EncodingLegal.absF32x4 : EncodingLegal.Statement .absF32x4 := by rfl
theorem EncodingLegal.absI32x4 : EncodingLegal.Statement .absI32x4 := by rfl
theorem EncodingLegal.absI16x8 : EncodingLegal.Statement .absI16x8 := by rfl
theorem EncodingLegal.absI8x16 : EncodingLegal.Statement .absI8x16 := by rfl
theorem EncodingLegal.negF64x2 : EncodingLegal.Statement .negF64x2 := by rfl
theorem EncodingLegal.negF32x4 : EncodingLegal.Statement .negF32x4 := by rfl
theorem EncodingLegal.negI32x4 : EncodingLegal.Statement .negI32x4 := by rfl
theorem EncodingLegal.negI16x8 : EncodingLegal.Statement .negI16x8 := by rfl
theorem EncodingLegal.negI8x16 : EncodingLegal.Statement .negI8x16 := by rfl
theorem EncodingLegal.minF64x2 : EncodingLegal.Statement .minF64x2 := by rfl
theorem EncodingLegal.minF32x4 : EncodingLegal.Statement .minF32x4 := by rfl
theorem EncodingLegal.minI32x4 : EncodingLegal.Statement .minI32x4 := by rfl
theorem EncodingLegal.minI16x8 : EncodingLegal.Statement .minI16x8 := by rfl
theorem EncodingLegal.minI8x16 : EncodingLegal.Statement .minI8x16 := by rfl
theorem EncodingLegal.maxF64x2 : EncodingLegal.Statement .maxF64x2 := by rfl
theorem EncodingLegal.maxF32x4 : EncodingLegal.Statement .maxF32x4 := by rfl
theorem EncodingLegal.maxI32x4 : EncodingLegal.Statement .maxI32x4 := by rfl
theorem EncodingLegal.maxI16x8 : EncodingLegal.Statement .maxI16x8 := by rfl
theorem EncodingLegal.maxI8x16 : EncodingLegal.Statement .maxI8x16 := by rfl
theorem EncodingLegal.minnumF64x2 : EncodingLegal.Statement .minnumF64x2 := by rfl
theorem EncodingLegal.minnumF32x4 : EncodingLegal.Statement .minnumF32x4 := by rfl
theorem EncodingLegal.maxnumF64x2 : EncodingLegal.Statement .maxnumF64x2 := by rfl
theorem EncodingLegal.maxnumF32x4 : EncodingLegal.Statement .maxnumF32x4 := by rfl
theorem EncodingLegal.clampF64x2 : EncodingLegal.Statement .clampF64x2 := by rfl
theorem EncodingLegal.clampF32x4 : EncodingLegal.Statement .clampF32x4 := by rfl
theorem EncodingLegal.clampI32x4 : EncodingLegal.Statement .clampI32x4 := by rfl
theorem EncodingLegal.clampI16x8 : EncodingLegal.Statement .clampI16x8 := by rfl
theorem EncodingLegal.clampI8x16 : EncodingLegal.Statement .clampI8x16 := by rfl
theorem EncodingLegal.sqrtF64x2 : EncodingLegal.Statement .sqrtF64x2 := by rfl
theorem EncodingLegal.sqrtF32x4 : EncodingLegal.Statement .sqrtF32x4 := by rfl
theorem EncodingLegal.rcpaF64x2 : EncodingLegal.Statement .rcpaF64x2 := by rfl
theorem EncodingLegal.rcpaF32x4 : EncodingLegal.Statement .rcpaF32x4 := by rfl
theorem EncodingLegal.rsqaF64x2 : EncodingLegal.Statement .rsqaF64x2 := by rfl
theorem EncodingLegal.rsqaF32x4 : EncodingLegal.Statement .rsqaF32x4 := by rfl
theorem EncodingLegal.andF64x2 : EncodingLegal.Statement .andF64x2 := by rfl
theorem EncodingLegal.andF32x4 : EncodingLegal.Statement .andF32x4 := by rfl
theorem EncodingLegal.andI32x4 : EncodingLegal.Statement .andI32x4 := by rfl
theorem EncodingLegal.andI16x8 : EncodingLegal.Statement .andI16x8 := by rfl
theorem EncodingLegal.andI8x16 : EncodingLegal.Statement .andI8x16 := by rfl
theorem EncodingLegal.andM64x2 : EncodingLegal.Statement .andM64x2 := by rfl
theorem EncodingLegal.andM32x4 : EncodingLegal.Statement .andM32x4 := by rfl
theorem EncodingLegal.andM16x8 : EncodingLegal.Statement .andM16x8 := by rfl
theorem EncodingLegal.andM8x16 : EncodingLegal.Statement .andM8x16 := by rfl
theorem EncodingLegal.orF64x2 : EncodingLegal.Statement .orF64x2 := by rfl
theorem EncodingLegal.orF32x4 : EncodingLegal.Statement .orF32x4 := by rfl
theorem EncodingLegal.orI32x4 : EncodingLegal.Statement .orI32x4 := by rfl
theorem EncodingLegal.orI16x8 : EncodingLegal.Statement .orI16x8 := by rfl
theorem EncodingLegal.orI8x16 : EncodingLegal.Statement .orI8x16 := by rfl
theorem EncodingLegal.orM64x2 : EncodingLegal.Statement .orM64x2 := by rfl
theorem EncodingLegal.orM32x4 : EncodingLegal.Statement .orM32x4 := by rfl
theorem EncodingLegal.orM16x8 : EncodingLegal.Statement .orM16x8 := by rfl
theorem EncodingLegal.orM8x16 : EncodingLegal.Statement .orM8x16 := by rfl
theorem EncodingLegal.xorF64x2 : EncodingLegal.Statement .xorF64x2 := by rfl
theorem EncodingLegal.xorF32x4 : EncodingLegal.Statement .xorF32x4 := by rfl
theorem EncodingLegal.xorI32x4 : EncodingLegal.Statement .xorI32x4 := by rfl
theorem EncodingLegal.xorI16x8 : EncodingLegal.Statement .xorI16x8 := by rfl
theorem EncodingLegal.xorI8x16 : EncodingLegal.Statement .xorI8x16 := by rfl
theorem EncodingLegal.xorM64x2 : EncodingLegal.Statement .xorM64x2 := by rfl
theorem EncodingLegal.xorM32x4 : EncodingLegal.Statement .xorM32x4 := by rfl
theorem EncodingLegal.xorM16x8 : EncodingLegal.Statement .xorM16x8 := by rfl
theorem EncodingLegal.xorM8x16 : EncodingLegal.Statement .xorM8x16 := by rfl
theorem EncodingLegal.notF64x2 : EncodingLegal.Statement .notF64x2 := by rfl
theorem EncodingLegal.notF32x4 : EncodingLegal.Statement .notF32x4 := by rfl
theorem EncodingLegal.notI32x4 : EncodingLegal.Statement .notI32x4 := by rfl
theorem EncodingLegal.notI16x8 : EncodingLegal.Statement .notI16x8 := by rfl
theorem EncodingLegal.notI8x16 : EncodingLegal.Statement .notI8x16 := by rfl
theorem EncodingLegal.notM64x2 : EncodingLegal.Statement .notM64x2 := by rfl
theorem EncodingLegal.notM32x4 : EncodingLegal.Statement .notM32x4 := by rfl
theorem EncodingLegal.notM16x8 : EncodingLegal.Statement .notM16x8 := by rfl
theorem EncodingLegal.notM8x16 : EncodingLegal.Statement .notM8x16 := by rfl
theorem EncodingLegal.ltF64x2 : EncodingLegal.Statement .ltF64x2 := by rfl
theorem EncodingLegal.ltF32x4 : EncodingLegal.Statement .ltF32x4 := by rfl
theorem EncodingLegal.ltI32x4 : EncodingLegal.Statement .ltI32x4 := by rfl
theorem EncodingLegal.ltI16x8 : EncodingLegal.Statement .ltI16x8 := by rfl
theorem EncodingLegal.ltI8x16 : EncodingLegal.Statement .ltI8x16 := by rfl
theorem EncodingLegal.leF64x2 : EncodingLegal.Statement .leF64x2 := by rfl
theorem EncodingLegal.leF32x4 : EncodingLegal.Statement .leF32x4 := by rfl
theorem EncodingLegal.leI32x4 : EncodingLegal.Statement .leI32x4 := by rfl
theorem EncodingLegal.leI16x8 : EncodingLegal.Statement .leI16x8 := by rfl
theorem EncodingLegal.leI8x16 : EncodingLegal.Statement .leI8x16 := by rfl
theorem EncodingLegal.eqF64x2 : EncodingLegal.Statement .eqF64x2 := by rfl
theorem EncodingLegal.eqF32x4 : EncodingLegal.Statement .eqF32x4 := by rfl
theorem EncodingLegal.eqI32x4 : EncodingLegal.Statement .eqI32x4 := by rfl
theorem EncodingLegal.eqI16x8 : EncodingLegal.Statement .eqI16x8 := by rfl
theorem EncodingLegal.eqI8x16 : EncodingLegal.Statement .eqI8x16 := by rfl
theorem EncodingLegal.neF64x2 : EncodingLegal.Statement .neF64x2 := by rfl
theorem EncodingLegal.neF32x4 : EncodingLegal.Statement .neF32x4 := by rfl
theorem EncodingLegal.neI32x4 : EncodingLegal.Statement .neI32x4 := by rfl
theorem EncodingLegal.neI16x8 : EncodingLegal.Statement .neI16x8 := by rfl
theorem EncodingLegal.neI8x16 : EncodingLegal.Statement .neI8x16 := by rfl
theorem EncodingLegal.gtF64x2 : EncodingLegal.Statement .gtF64x2 := by rfl
theorem EncodingLegal.gtF32x4 : EncodingLegal.Statement .gtF32x4 := by rfl
theorem EncodingLegal.gtI32x4 : EncodingLegal.Statement .gtI32x4 := by rfl
theorem EncodingLegal.gtI16x8 : EncodingLegal.Statement .gtI16x8 := by rfl
theorem EncodingLegal.gtI8x16 : EncodingLegal.Statement .gtI8x16 := by rfl
theorem EncodingLegal.geF64x2 : EncodingLegal.Statement .geF64x2 := by rfl
theorem EncodingLegal.geF32x4 : EncodingLegal.Statement .geF32x4 := by rfl
theorem EncodingLegal.geI32x4 : EncodingLegal.Statement .geI32x4 := by rfl
theorem EncodingLegal.geI16x8 : EncodingLegal.Statement .geI16x8 := by rfl
theorem EncodingLegal.geI8x16 : EncodingLegal.Statement .geI8x16 := by rfl
theorem EncodingLegal.swizzleF64x2 : EncodingLegal.Statement .swizzleF64x2 := by rfl
theorem EncodingLegal.swizzleF32x4 : EncodingLegal.Statement .swizzleF32x4 := by rfl
theorem EncodingLegal.swizzleI32x4 : EncodingLegal.Statement .swizzleI32x4 := by rfl
theorem EncodingLegal.swizzleI16x8 : EncodingLegal.Statement .swizzleI16x8 := by rfl
theorem EncodingLegal.swizzleI8x16 : EncodingLegal.Statement .swizzleI8x16 := by rfl
theorem EncodingLegal.swizzleM64x2 : EncodingLegal.Statement .swizzleM64x2 := by rfl
theorem EncodingLegal.swizzleM32x4 : EncodingLegal.Statement .swizzleM32x4 := by rfl
theorem EncodingLegal.swizzleM16x8 : EncodingLegal.Statement .swizzleM16x8 := by rfl
theorem EncodingLegal.swizzleM8x16 : EncodingLegal.Statement .swizzleM8x16 := by rfl
theorem EncodingLegal.shuffleF64x2 : EncodingLegal.Statement .shuffleF64x2 := by rfl
theorem EncodingLegal.shuffleF32x4 : EncodingLegal.Statement .shuffleF32x4 := by rfl
theorem EncodingLegal.shuffleI32x4 : EncodingLegal.Statement .shuffleI32x4 := by rfl
theorem EncodingLegal.shuffleI16x8 : EncodingLegal.Statement .shuffleI16x8 := by rfl
theorem EncodingLegal.shuffleI8x16 : EncodingLegal.Statement .shuffleI8x16 := by rfl
theorem EncodingLegal.shuffleM64x2 : EncodingLegal.Statement .shuffleM64x2 := by rfl
theorem EncodingLegal.shuffleM32x4 : EncodingLegal.Statement .shuffleM32x4 := by rfl
theorem EncodingLegal.shuffleM16x8 : EncodingLegal.Statement .shuffleM16x8 := by rfl
theorem EncodingLegal.shuffleM8x16 : EncodingLegal.Statement .shuffleM8x16 := by rfl
theorem EncodingLegal.selectF64x2 : EncodingLegal.Statement .selectF64x2 := by rfl
theorem EncodingLegal.selectF32x4 : EncodingLegal.Statement .selectF32x4 := by rfl
theorem EncodingLegal.selectI32x4 : EncodingLegal.Statement .selectI32x4 := by rfl
theorem EncodingLegal.selectI16x8 : EncodingLegal.Statement .selectI16x8 := by rfl
theorem EncodingLegal.selectI8x16 : EncodingLegal.Statement .selectI8x16 := by rfl
theorem EncodingLegal.selectM64x2 : EncodingLegal.Statement .selectM64x2 := by rfl
theorem EncodingLegal.selectM32x4 : EncodingLegal.Statement .selectM32x4 := by rfl
theorem EncodingLegal.selectM16x8 : EncodingLegal.Statement .selectM16x8 := by rfl
theorem EncodingLegal.selectM8x16 : EncodingLegal.Statement .selectM8x16 := by rfl
theorem EncodingLegal.bitselectF64x2 : EncodingLegal.Statement .bitselectF64x2 := by rfl
theorem EncodingLegal.bitselectF32x4 : EncodingLegal.Statement .bitselectF32x4 := by rfl
theorem EncodingLegal.bitselectI32x4 : EncodingLegal.Statement .bitselectI32x4 := by rfl
theorem EncodingLegal.bitselectI16x8 : EncodingLegal.Statement .bitselectI16x8 := by rfl
theorem EncodingLegal.bitselectI8x16 : EncodingLegal.Statement .bitselectI8x16 := by rfl
theorem EncodingLegal.cvtF64x2F64x2 : EncodingLegal.Statement .cvtF64x2F64x2 := by rfl
theorem EncodingLegal.cvtF64x2F32x4 : EncodingLegal.Statement .cvtF64x2F32x4 := by rfl
theorem EncodingLegal.cvtF64x2I32x4 : EncodingLegal.Statement .cvtF64x2I32x4 := by rfl
theorem EncodingLegal.cvtF64x2I16x8 : EncodingLegal.Statement .cvtF64x2I16x8 := by rfl
theorem EncodingLegal.cvtF64x2I8x16 : EncodingLegal.Statement .cvtF64x2I8x16 := by rfl
theorem EncodingLegal.cvtF32x4F64x2 : EncodingLegal.Statement .cvtF32x4F64x2 := by rfl
theorem EncodingLegal.cvtF32x4F32x4 : EncodingLegal.Statement .cvtF32x4F32x4 := by rfl
theorem EncodingLegal.cvtF32x4I32x4 : EncodingLegal.Statement .cvtF32x4I32x4 := by rfl
theorem EncodingLegal.cvtF32x4I16x8 : EncodingLegal.Statement .cvtF32x4I16x8 := by rfl
theorem EncodingLegal.cvtF32x4I8x16 : EncodingLegal.Statement .cvtF32x4I8x16 := by rfl
theorem EncodingLegal.cvtI32x4F64x2 : EncodingLegal.Statement .cvtI32x4F64x2 := by rfl
theorem EncodingLegal.cvtI32x4F32x4 : EncodingLegal.Statement .cvtI32x4F32x4 := by rfl
theorem EncodingLegal.cvtI32x4I32x4 : EncodingLegal.Statement .cvtI32x4I32x4 := by rfl
theorem EncodingLegal.cvtI32x4I16x8 : EncodingLegal.Statement .cvtI32x4I16x8 := by rfl
theorem EncodingLegal.cvtI32x4I8x16 : EncodingLegal.Statement .cvtI32x4I8x16 := by rfl
theorem EncodingLegal.cvtI16x8F64x2 : EncodingLegal.Statement .cvtI16x8F64x2 := by rfl
theorem EncodingLegal.cvtI16x8F32x4 : EncodingLegal.Statement .cvtI16x8F32x4 := by rfl
theorem EncodingLegal.cvtI16x8I32x4 : EncodingLegal.Statement .cvtI16x8I32x4 := by rfl
theorem EncodingLegal.cvtI16x8I16x8 : EncodingLegal.Statement .cvtI16x8I16x8 := by rfl
theorem EncodingLegal.cvtI16x8I8x16 : EncodingLegal.Statement .cvtI16x8I8x16 := by rfl
theorem EncodingLegal.cvtI8x16F64x2 : EncodingLegal.Statement .cvtI8x16F64x2 := by rfl
theorem EncodingLegal.cvtI8x16F32x4 : EncodingLegal.Statement .cvtI8x16F32x4 := by rfl
theorem EncodingLegal.cvtI8x16I32x4 : EncodingLegal.Statement .cvtI8x16I32x4 := by rfl
theorem EncodingLegal.cvtI8x16I16x8 : EncodingLegal.Statement .cvtI8x16I16x8 := by rfl
theorem EncodingLegal.cvtI8x16I8x16 : EncodingLegal.Statement .cvtI8x16I8x16 := by rfl
theorem EncodingLegal.bitcastF64x2F64x2 : EncodingLegal.Statement .bitcastF64x2F64x2 := by rfl
theorem EncodingLegal.bitcastF64x2F32x4 : EncodingLegal.Statement .bitcastF64x2F32x4 := by rfl
theorem EncodingLegal.bitcastF64x2I32x4 : EncodingLegal.Statement .bitcastF64x2I32x4 := by rfl
theorem EncodingLegal.bitcastF64x2I16x8 : EncodingLegal.Statement .bitcastF64x2I16x8 := by rfl
theorem EncodingLegal.bitcastF64x2I8x16 : EncodingLegal.Statement .bitcastF64x2I8x16 := by rfl
theorem EncodingLegal.bitcastF32x4F64x2 : EncodingLegal.Statement .bitcastF32x4F64x2 := by rfl
theorem EncodingLegal.bitcastF32x4F32x4 : EncodingLegal.Statement .bitcastF32x4F32x4 := by rfl
theorem EncodingLegal.bitcastF32x4I32x4 : EncodingLegal.Statement .bitcastF32x4I32x4 := by rfl
theorem EncodingLegal.bitcastF32x4I16x8 : EncodingLegal.Statement .bitcastF32x4I16x8 := by rfl
theorem EncodingLegal.bitcastF32x4I8x16 : EncodingLegal.Statement .bitcastF32x4I8x16 := by rfl
theorem EncodingLegal.bitcastI32x4F64x2 : EncodingLegal.Statement .bitcastI32x4F64x2 := by rfl
theorem EncodingLegal.bitcastI32x4F32x4 : EncodingLegal.Statement .bitcastI32x4F32x4 := by rfl
theorem EncodingLegal.bitcastI32x4I32x4 : EncodingLegal.Statement .bitcastI32x4I32x4 := by rfl
theorem EncodingLegal.bitcastI32x4I16x8 : EncodingLegal.Statement .bitcastI32x4I16x8 := by rfl
theorem EncodingLegal.bitcastI32x4I8x16 : EncodingLegal.Statement .bitcastI32x4I8x16 := by rfl
theorem EncodingLegal.bitcastI16x8F64x2 : EncodingLegal.Statement .bitcastI16x8F64x2 := by rfl
theorem EncodingLegal.bitcastI16x8F32x4 : EncodingLegal.Statement .bitcastI16x8F32x4 := by rfl
theorem EncodingLegal.bitcastI16x8I32x4 : EncodingLegal.Statement .bitcastI16x8I32x4 := by rfl
theorem EncodingLegal.bitcastI16x8I16x8 : EncodingLegal.Statement .bitcastI16x8I16x8 := by rfl
theorem EncodingLegal.bitcastI16x8I8x16 : EncodingLegal.Statement .bitcastI16x8I8x16 := by rfl
theorem EncodingLegal.bitcastI8x16F64x2 : EncodingLegal.Statement .bitcastI8x16F64x2 := by rfl
theorem EncodingLegal.bitcastI8x16F32x4 : EncodingLegal.Statement .bitcastI8x16F32x4 := by rfl
theorem EncodingLegal.bitcastI8x16I32x4 : EncodingLegal.Statement .bitcastI8x16I32x4 := by rfl
theorem EncodingLegal.bitcastI8x16I16x8 : EncodingLegal.Statement .bitcastI8x16I16x8 := by rfl
theorem EncodingLegal.bitcastI8x16I8x16 : EncodingLegal.Statement .bitcastI8x16I8x16 := by rfl
theorem EncodingLegal.checkF64x2 : EncodingLegal.Statement .checkF64x2 := by rfl
theorem EncodingLegal.checkF32x4 : EncodingLegal.Statement .checkF32x4 := by rfl
theorem EncodingLegal.checkI32x4 : EncodingLegal.Statement .checkI32x4 := by rfl
theorem EncodingLegal.checkI16x8 : EncodingLegal.Statement .checkI16x8 := by rfl
theorem EncodingLegal.checkI8x16 : EncodingLegal.Statement .checkI8x16 := by rfl
theorem EncodingLegal.checkM64x2 : EncodingLegal.Statement .checkM64x2 := by rfl
theorem EncodingLegal.checkM32x4 : EncodingLegal.Statement .checkM32x4 := by rfl
theorem EncodingLegal.checkM16x8 : EncodingLegal.Statement .checkM16x8 := by rfl
theorem EncodingLegal.checkM8x16 : EncodingLegal.Statement .checkM8x16 := by rfl

end Sys2Proof.Laws
end

