-- ==== Sys2Proof/Laws/Step.lean ====
section
/-! SUPPORT. What a step can do, said once: reset, idle, a reserved word, or the decoded instruction. -/
namespace Sys2Proof.Machine

/-- The four steps (70_reset_and_hazards.md R192, 30_encoding.md R70). -/
theorem step_cases (s t : State) (h : step s = .next t) :
    (s.ports.reset = true ∧ t = s.resetStep.present) ∨
    (s.ports.reset = false ∧ s.ports.opValid = false ∧ t = s.idleStep.present) ∨
    (s.ports.reset = false ∧ s.ports.opValid = true ∧
      (∃ e, decodeWord s.ports.op = .error e) ∧ t = (s.raiseError .illegalOp).present) ∨
    (s.ports.reset = false ∧ s.ports.opValid = true ∧
      ∃ i u, decodeWord s.ports.op = .ok i ∧ exec i s = .next u ∧ t = u.present) := by
  unfold step State.fetch at h
  cases hr : s.ports.reset with
  | true => simp [hr] at h; exact .inl ⟨rfl, h.symm⟩
  | false =>
    cases hv : s.ports.opValid with
    | false => simp [hr, hv] at h; exact .inr (.inl ⟨rfl, rfl, h.symm⟩)
    | true =>
      cases hd : decodeWord s.ports.op with
      | error e =>
        simp [hr, hv, hd] at h
        exact .inr (.inr (.inl ⟨rfl, rfl, ⟨e, rfl⟩, h.symm⟩))
      | ok i =>
        cases he : exec i s with
        | next u => simp [hr, hv, hd, he] at h; exact .inr (.inr (.inr ⟨rfl, rfl, i, u, rfl, he, h.symm⟩))
        | fault r => exact nomatch r
        | refused r => simp [hr, hv, hd, he] at h

/-- An issued legal word: the step is the instruction's, with the host's next inputs presented. -/
theorem step_of_decoded (s : State) (i : Instr) (u : State) (hr : s.ports.reset = false) (hv : s.ports.opValid = true)
    (hd : decodeWord s.ports.op = .ok i) (he : exec i s = .next u) : step s = .next u.present := by
  simp [step, State.fetch, hr, hv, hd, he]

/-- An issued reserved word: IllegalOp. -/
theorem step_of_reserved (s : State) (e : DecodeError) (hr : s.ports.reset = false) (hv : s.ports.opValid = true)
    (hd : decodeWord s.ports.op = .error e) : step s = .next (s.raiseError .illegalOp).present := by
  simp [step, State.fetch, hr, hv, hd]

end Sys2Proof.Machine
end

