-- ==== Sys2Proof/Machine/Assembler.lean ====
section
/-! DEFINITION. The spec's assembler syntax (30_encoding.md R73): `MNEMONIC.SHAPE`, and `CVT.<dst>.<src>`, destination
first, with an index list for SWIZZLE and SHUFFLE. The block never sees it. -/
namespace Sys2Proof.Machine

/-- The name of a shape (10_state.md R21). -/
def shapeName : Shape → String
  | .f64x2 => "F64x2"
  | .f32x4 => "F32x4"
  | .i32x4 => "I32x4"
  | .i16x8 => "I16x8"
  | .i8x16 => "I8x16"
  | .m64x2 => "M64x2"
  | .m32x4 => "M32x4"
  | .m16x8 => "M16x8"
  | .m8x16 => "M8x16"

/-- The mnemonic of an operation (30_encoding.md R62). -/
def opcName : Opc → String
  | .add => "ADD"
  | .sub => "SUB"
  | .mul => "MUL"
  | .div => "DIV"
  | .abs => "ABS"
  | .neg => "NEG"
  | .min => "MIN"
  | .max => "MAX"
  | .minnum => "MINNUM"
  | .maxnum => "MAXNUM"
  | .clamp => "CLAMP"
  | .sqrt => "SQRT"
  | .rcpa => "RCPA"
  | .rsqa => "RSQA"
  | .and => "AND"
  | .or => "OR"
  | .xor => "XOR"
  | .not => "NOT"
  | .lt => "LT"
  | .le => "LE"
  | .eq => "EQ"
  | .ne => "NE"
  | .gt => "GT"
  | .ge => "GE"
  | .swizzle => "SWIZZLE"
  | .shuffle => "SHUFFLE"
  | .select => "SELECT"
  | .bitselect => "BITSELECT"
  | .cvt => "CVT"
  | .bitcast => "BITCAST"
  | .check => "CHECK"

/-- The text of an instruction before its operands (30_encoding.md R73). -/
def instrText (i : Instr) : String :=
  opcName (Instr.opc i) ++ "." ++ shapeName (Instr.shape i) ++
    (match Instr.source i with
    | some s => "." ++ shapeName s
    | none => "")

/-- The word a text names; mnemonics are case-insensitive and shape names are written as they are, so the text is
compared with the text of the instruction a word decodes to, the mnemonic in capitals (30_encoding.md R73). -/
def namesWord (text : String) (w : OpWord) : Bool :=
  match decodeWord w with
  | .error _ => false
  | .ok i =>
    match text.splitOn "." with
    | [] => false
    | m :: rest => ".".intercalate (m.toUpper :: rest) == instrText i

/-- The index word of an index list: exactly `N` entries, entry `k` at byte `k`, unused bytes zero
(30_encoding.md R73). -/
def assembleIndices (sh : Shape) (args : List IndexArg) : Option Data :=
  if args.length = shapeLanes sh then some (encodeIndices args) else none

end Sys2Proof.Machine
end

