-- ==== Sys2Proof/Tests/Slice0.lean ====
section
/-! SUPPORT. Tests of the model. Expected words are those of 30_encoding.md section 7, expected results those of
95_test_vectors.md or worked out from the rule a test names; none is the model's own answer. The last part holds a
witness for each statement with hypotheses: states and operands that meet them. -/
namespace Sys2Proof.Tests
open Sys2Proof.Machine

-- One theorem after another, so that the file keeps to the memory of one thread.
set_option Elab.async false

/-- What a host reads of the result register after a step. -/
structure Reading where
  valid : Bool
  tag : Tag
  data : Data
  err : ErrCode
deriving DecidableEq, Repr

/-- The four result fields of a state. -/
def readOut (s : State) : Reading := ⟨s.resValid, s.resTag, s.resData, s.resErr⟩

/-- The result register after one step. -/
def answer (s : State) : Option Reading :=
  match step s with
  | .next t => some (readOut t)
  | .fault _ => none
  | .refused _ => none

/-- A state after reset in which the host issues one operation. -/
def issuing (op : OpWord) (a b c : Value) (idx : Data) : State :=
  { State.reset with ports := Ports.ofIssue op a b c idx }

/-- What a port an operation does not read is given: a reserved tag. -/
def unread : Value := ⟨0x3#4, 0x0123456789ABCDEF0123456789ABCDEF#128⟩

/-- The result register holds an earlier result. -/
def earlier : State :=
  { State.reset with resValid := true, resTag := 0x9#4, resData := 0x00000004000000030000000200000001#128 }

/-! Legal words: one refused field set for each check of 30_encoding.md R64. -/

theorem test_legal_cvt_accepted : (OpFields.mk 0x28#6 0x5#4 0x9#4 0#18).legal = true := by decide
theorem test_legal_check_accepted : (OpFields.mk 0x2C#6 0xF#4 0x0#4 0#18).legal = true := by decide
theorem test_legal_refuses_reserved_bits : (OpFields.mk 0x00#6 0x5#4 0x0#4 1#18).legal = false := by decide
theorem test_legal_refuses_reserved_opc : (OpFields.mk 0x0E#6 0x5#4 0x0#4 0#18).legal = false := by decide
theorem test_legal_refuses_reserved_shape : (OpFields.mk 0x00#6 0x3#4 0x0#4 0#18).legal = false := by decide
theorem test_legal_refuses_shape_outside_set : (OpFields.mk 0x08#6 0x9#4 0x0#4 0#18).legal = false := by decide
theorem test_legal_refuses_mask_arithmetic : (OpFields.mk 0x00#6 0xD#4 0x0#4 0#18).legal = false := by decide
theorem test_legal_refuses_unused_source : (OpFields.mk 0x00#6 0x5#4 0x5#4 0#18).legal = false := by decide
theorem test_legal_refuses_mask_source : (OpFields.mk 0x28#6 0x5#4 0xD#4 0#18).legal = false := by decide
theorem test_legal_refuses_absent_source : (OpFields.mk 0x29#6 0x5#4 0x0#4 0#18).legal = false := by decide
theorem test_legal_refuses_mask_destination : (OpFields.mk 0x28#6 0xD#4 0x5#4 0#18).legal = false := by decide

/-! Decoding. -/

/-- Every word is read as its instruction, and is the word the encoder writes for it. -/
def reads (l : List (Nat × Instr)) : Bool :=
  l.all fun p => decodeTableWord 32 p.1 == some p.2 && (encode p.2).toNat == p.1

/-- The ADD words of 30_encoding.md section 7. -/
theorem test_decode_add : reads [
    (0x01000000, .addF64x2), (0x01400000, .addF32x4), (0x02400000, .addI32x4), (0x02800000, .addI16x8), (0x02C00000,
    .addI8x16)] = true := by
  rfl

/-- The SUB words of 30_encoding.md section 7. -/
theorem test_decode_sub : reads [
    (0x05000000, .subF64x2), (0x05400000, .subF32x4), (0x06400000, .subI32x4), (0x06800000, .subI16x8), (0x06C00000,
    .subI8x16)] = true := by
  rfl

/-- The MUL words of 30_encoding.md section 7. -/
theorem test_decode_mul : reads [
    (0x09000000, .mulF64x2), (0x09400000, .mulF32x4), (0x0A400000, .mulI32x4), (0x0A800000, .mulI16x8), (0x0AC00000,
    .mulI8x16)] = true := by
  rfl

/-- The DIV words of 30_encoding.md section 7. -/
theorem test_decode_div : reads [
    (0x0D000000, .divF64x2), (0x0D400000, .divF32x4), (0x0E400000, .divI32x4), (0x0E800000, .divI16x8), (0x0EC00000,
    .divI8x16)] = true := by
  rfl

/-- The ABS words of 30_encoding.md section 7. -/
theorem test_decode_abs : reads [
    (0x11000000, .absF64x2), (0x11400000, .absF32x4), (0x12400000, .absI32x4), (0x12800000, .absI16x8), (0x12C00000,
    .absI8x16)] = true := by
  rfl

/-- The NEG words of 30_encoding.md section 7. -/
theorem test_decode_neg : reads [
    (0x15000000, .negF64x2), (0x15400000, .negF32x4), (0x16400000, .negI32x4), (0x16800000, .negI16x8), (0x16C00000,
    .negI8x16)] = true := by
  rfl

/-- The MIN words of 30_encoding.md section 7. -/
theorem test_decode_min : reads [
    (0x19000000, .minF64x2), (0x19400000, .minF32x4), (0x1A400000, .minI32x4), (0x1A800000, .minI16x8), (0x1AC00000,
    .minI8x16)] = true := by
  rfl

/-- The MAX words of 30_encoding.md section 7. -/
theorem test_decode_max : reads [
    (0x1D000000, .maxF64x2), (0x1D400000, .maxF32x4), (0x1E400000, .maxI32x4), (0x1E800000, .maxI16x8), (0x1EC00000,
    .maxI8x16)] = true := by
  rfl

/-- The MINNUM words of 30_encoding.md section 7. -/
theorem test_decode_minnum : reads [
    (0x21000000, .minnumF64x2), (0x21400000, .minnumF32x4)] = true := by
  rfl

/-- The MAXNUM words of 30_encoding.md section 7. -/
theorem test_decode_maxnum : reads [
    (0x25000000, .maxnumF64x2), (0x25400000, .maxnumF32x4)] = true := by
  rfl

/-- The CLAMP words of 30_encoding.md section 7. -/
theorem test_decode_clamp : reads [
    (0x29000000, .clampF64x2), (0x29400000, .clampF32x4), (0x2A400000, .clampI32x4), (0x2A800000, .clampI16x8),
    (0x2AC00000, .clampI8x16)] = true := by
  rfl

/-- The SQRT words of 30_encoding.md section 7. -/
theorem test_decode_sqrt : reads [
    (0x2D000000, .sqrtF64x2), (0x2D400000, .sqrtF32x4)] = true := by
  rfl

/-- The RCPA words of 30_encoding.md section 7. -/
theorem test_decode_rcpa : reads [
    (0x31000000, .rcpaF64x2), (0x31400000, .rcpaF32x4)] = true := by
  rfl

/-- The RSQA words of 30_encoding.md section 7. -/
theorem test_decode_rsqa : reads [
    (0x35000000, .rsqaF64x2), (0x35400000, .rsqaF32x4)] = true := by
  rfl

/-- The AND words of 30_encoding.md section 7. -/
theorem test_decode_and : reads [
    (0x41000000, .andF64x2), (0x41400000, .andF32x4), (0x42400000, .andI32x4), (0x42800000, .andI16x8), (0x42C00000,
    .andI8x16), (0x43000000, .andM64x2), (0x43400000, .andM32x4), (0x43800000, .andM16x8), (0x43C00000, .andM8x16)] = true := by
  rfl

/-- The OR words of 30_encoding.md section 7. -/
theorem test_decode_or : reads [
    (0x45000000, .orF64x2), (0x45400000, .orF32x4), (0x46400000, .orI32x4), (0x46800000, .orI16x8), (0x46C00000,
    .orI8x16), (0x47000000, .orM64x2), (0x47400000, .orM32x4), (0x47800000, .orM16x8), (0x47C00000, .orM8x16)] = true := by
  rfl

/-- The XOR words of 30_encoding.md section 7. -/
theorem test_decode_xor : reads [
    (0x49000000, .xorF64x2), (0x49400000, .xorF32x4), (0x4A400000, .xorI32x4), (0x4A800000, .xorI16x8), (0x4AC00000,
    .xorI8x16), (0x4B000000, .xorM64x2), (0x4B400000, .xorM32x4), (0x4B800000, .xorM16x8), (0x4BC00000, .xorM8x16)] = true := by
  rfl

/-- The NOT words of 30_encoding.md section 7. -/
theorem test_decode_not : reads [
    (0x4D000000, .notF64x2), (0x4D400000, .notF32x4), (0x4E400000, .notI32x4), (0x4E800000, .notI16x8), (0x4EC00000,
    .notI8x16), (0x4F000000, .notM64x2), (0x4F400000, .notM32x4), (0x4F800000, .notM16x8), (0x4FC00000, .notM8x16)] = true := by
  rfl

/-- The LT words of 30_encoding.md section 7. -/
theorem test_decode_lt : reads [
    (0x61000000, .ltF64x2), (0x61400000, .ltF32x4), (0x62400000, .ltI32x4), (0x62800000, .ltI16x8), (0x62C00000,
    .ltI8x16)] = true := by
  rfl

/-- The LE words of 30_encoding.md section 7. -/
theorem test_decode_le : reads [
    (0x65000000, .leF64x2), (0x65400000, .leF32x4), (0x66400000, .leI32x4), (0x66800000, .leI16x8), (0x66C00000,
    .leI8x16)] = true := by
  rfl

/-- The EQ words of 30_encoding.md section 7. -/
theorem test_decode_eq : reads [
    (0x69000000, .eqF64x2), (0x69400000, .eqF32x4), (0x6A400000, .eqI32x4), (0x6A800000, .eqI16x8), (0x6AC00000,
    .eqI8x16)] = true := by
  rfl

/-- The NE words of 30_encoding.md section 7. -/
theorem test_decode_ne : reads [
    (0x6D000000, .neF64x2), (0x6D400000, .neF32x4), (0x6E400000, .neI32x4), (0x6E800000, .neI16x8), (0x6EC00000,
    .neI8x16)] = true := by
  rfl

/-- The GT words of 30_encoding.md section 7. -/
theorem test_decode_gt : reads [
    (0x71000000, .gtF64x2), (0x71400000, .gtF32x4), (0x72400000, .gtI32x4), (0x72800000, .gtI16x8), (0x72C00000,
    .gtI8x16)] = true := by
  rfl

/-- The GE words of 30_encoding.md section 7. -/
theorem test_decode_ge : reads [
    (0x75000000, .geF64x2), (0x75400000, .geF32x4), (0x76400000, .geI32x4), (0x76800000, .geI16x8), (0x76C00000,
    .geI8x16)] = true := by
  rfl

/-- The SWIZZLE words of 30_encoding.md section 7. -/
theorem test_decode_swizzle : reads [
    (0x81000000, .swizzleF64x2), (0x81400000, .swizzleF32x4), (0x82400000, .swizzleI32x4), (0x82800000,
    .swizzleI16x8), (0x82C00000, .swizzleI8x16), (0x83000000, .swizzleM64x2), (0x83400000, .swizzleM32x4),
    (0x83800000, .swizzleM16x8), (0x83C00000, .swizzleM8x16)] = true := by
  rfl

/-- The SHUFFLE words of 30_encoding.md section 7. -/
theorem test_decode_shuffle : reads [
    (0x85000000, .shuffleF64x2), (0x85400000, .shuffleF32x4), (0x86400000, .shuffleI32x4), (0x86800000,
    .shuffleI16x8), (0x86C00000, .shuffleI8x16), (0x87000000, .shuffleM64x2), (0x87400000, .shuffleM32x4),
    (0x87800000, .shuffleM16x8), (0x87C00000, .shuffleM8x16)] = true := by
  rfl

/-- The SELECT words of 30_encoding.md section 7. -/
theorem test_decode_select : reads [
    (0x91000000, .selectF64x2), (0x91400000, .selectF32x4), (0x92400000, .selectI32x4), (0x92800000, .selectI16x8),
    (0x92C00000, .selectI8x16), (0x93000000, .selectM64x2), (0x93400000, .selectM32x4), (0x93800000, .selectM16x8),
    (0x93C00000, .selectM8x16)] = true := by
  rfl

/-- The BITSELECT words of 30_encoding.md section 7. -/
theorem test_decode_bitselect : reads [
    (0x95000000, .bitselectF64x2), (0x95400000, .bitselectF32x4), (0x96400000, .bitselectI32x4), (0x96800000,
    .bitselectI16x8), (0x96C00000, .bitselectI8x16)] = true := by
  rfl

/-- The CVT words of 30_encoding.md section 7. -/
theorem test_decode_cvt_1 : reads [
    (0xA1100000, .cvtF64x2F64x2), (0xA1140000, .cvtF64x2F32x4), (0xA1240000, .cvtF64x2I32x4), (0xA1280000,
    .cvtF64x2I16x8), (0xA12C0000, .cvtF64x2I8x16), (0xA1500000, .cvtF32x4F64x2), (0xA1540000, .cvtF32x4F32x4),
    (0xA1640000, .cvtF32x4I32x4), (0xA1680000, .cvtF32x4I16x8), (0xA16C0000, .cvtF32x4I8x16), (0xA2500000,
    .cvtI32x4F64x2), (0xA2540000, .cvtI32x4F32x4), (0xA2640000, .cvtI32x4I32x4)] = true := by
  rfl

/-- The CVT words of 30_encoding.md section 7. -/
theorem test_decode_cvt_2 : reads [
    (0xA2680000, .cvtI32x4I16x8), (0xA26C0000, .cvtI32x4I8x16), (0xA2900000, .cvtI16x8F64x2), (0xA2940000,
    .cvtI16x8F32x4), (0xA2A40000, .cvtI16x8I32x4), (0xA2A80000, .cvtI16x8I16x8), (0xA2AC0000, .cvtI16x8I8x16),
    (0xA2D00000, .cvtI8x16F64x2), (0xA2D40000, .cvtI8x16F32x4), (0xA2E40000, .cvtI8x16I32x4), (0xA2E80000,
    .cvtI8x16I16x8), (0xA2EC0000, .cvtI8x16I8x16)] = true := by
  rfl

/-- The BITCAST words of 30_encoding.md section 7. -/
theorem test_decode_bitcast_1 : reads [
    (0xA5100000, .bitcastF64x2F64x2), (0xA5140000, .bitcastF64x2F32x4), (0xA5240000, .bitcastF64x2I32x4),
    (0xA5280000, .bitcastF64x2I16x8), (0xA52C0000, .bitcastF64x2I8x16), (0xA5500000, .bitcastF32x4F64x2),
    (0xA5540000, .bitcastF32x4F32x4), (0xA5640000, .bitcastF32x4I32x4), (0xA5680000, .bitcastF32x4I16x8),
    (0xA56C0000, .bitcastF32x4I8x16), (0xA6500000, .bitcastI32x4F64x2), (0xA6540000, .bitcastI32x4F32x4),
    (0xA6640000, .bitcastI32x4I32x4)] = true := by
  rfl

/-- The BITCAST words of 30_encoding.md section 7. -/
theorem test_decode_bitcast_2 : reads [
    (0xA6680000, .bitcastI32x4I16x8), (0xA66C0000, .bitcastI32x4I8x16), (0xA6900000, .bitcastI16x8F64x2),
    (0xA6940000, .bitcastI16x8F32x4), (0xA6A40000, .bitcastI16x8I32x4), (0xA6A80000, .bitcastI16x8I16x8),
    (0xA6AC0000, .bitcastI16x8I8x16), (0xA6D00000, .bitcastI8x16F64x2), (0xA6D40000, .bitcastI8x16F32x4),
    (0xA6E40000, .bitcastI8x16I32x4), (0xA6E80000, .bitcastI8x16I16x8), (0xA6EC0000, .bitcastI8x16I8x16)] = true := by
  rfl

/-- The CHECK words of 30_encoding.md section 7. -/
theorem test_decode_check : reads [
    (0xB1000000, .checkF64x2), (0xB1400000, .checkF32x4), (0xB2400000, .checkI32x4), (0xB2800000, .checkI16x8),
    (0xB2C00000, .checkI8x16), (0xB3000000, .checkM64x2), (0xB3400000, .checkM32x4), (0xB3800000, .checkM16x8),
    (0xB3C00000, .checkM8x16)] = true := by
  rfl

/-! One word per family written from its fields, `OPC`, `SHAPE`, `SSHAPE` and eighteen zeros (30_encoding.md R60, R62;
10_state.md R21). -/

theorem test_bits_sub_i16x8 : decodeWord (0b000001#6 ++ 0b1010#4 ++ 0b0000#4 ++ 0#18) = .ok .subI16x8 := by rfl
theorem test_bits_rsqa_f64x2 : decodeWord (0b001101#6 ++ 0b0100#4 ++ 0b0000#4 ++ 0#18) = .ok .rsqaF64x2 := by rfl
theorem test_bits_xor_m16x8 : decodeWord (0b010010#6 ++ 0b1110#4 ++ 0b0000#4 ++ 0#18) = .ok .xorM16x8 := by rfl
theorem test_bits_ge_i8x16 : decodeWord (0b011101#6 ++ 0b1011#4 ++ 0b0000#4 ++ 0#18) = .ok .geI8x16 := by rfl
theorem test_bits_shuffle_m64x2 : decodeWord (0b100001#6 ++ 0b1100#4 ++ 0b0000#4 ++ 0#18) = .ok .shuffleM64x2 := by rfl
theorem test_bits_bitselect_f32x4 : decodeWord (0b100101#6 ++ 0b0101#4 ++ 0b0000#4 ++ 0#18) = .ok .bitselectF32x4 := by rfl
theorem test_bits_cvt_f64x2_i8x16 : decodeWord (0b101000#6 ++ 0b0100#4 ++ 0b1011#4 ++ 0#18) = .ok .cvtF64x2I8x16 := by rfl
theorem test_bits_check_m32x4 : decodeWord (0b101100#6 ++ 0b1101#4 ++ 0b0000#4 ++ 0#18) = .ok .checkM32x4 := by rfl

/-! Reserved words, rejected by name (30_encoding.md R64, R70). -/

theorem test_decode_rejects_reserved_bits : decodeWord 0x01400001#32 = .error .reservedBits := by rfl
theorem test_decode_rejects_top_reserved_bit : decodeWord 0x01420000#32 = .error .reservedBits := by rfl
theorem test_decode_rejects_reserved_opc : decodeWord 0x39400000#32 = .error .reservedOpc := by rfl
theorem test_decode_rejects_reserved_shape : decodeWord 0x00C00000#32 = .error .illegalShape := by rfl
theorem test_decode_rejects_mask_lt : decodeWord 0x63400000#32 = .error .illegalShape := by rfl
theorem test_decode_rejects_integer_rcpa : decodeWord 0x32400000#32 = .error .illegalShape := by rfl
theorem test_decode_rejects_unused_source : decodeWord 0x01540000#32 = .error .illegalSource := by rfl
theorem test_decode_rejects_mask_source : decodeWord 0xA1740000#32 = .error .illegalSource := by rfl
theorem test_decode_rejects_long_word : decodeTableWord 40 0x101400000 = none := by rfl

/-! Steps: reset, idle, issue (70_reset_and_hazards.md R190, R192; 40_issue_and_check.md R81). -/

theorem test_reset_step_clears_result :
    answer { earlier with ports := { Ports.quiet with reset := true, opValid := true, op := 0xFFFFFFFF#32 } } =
      some ⟨false, 0x0#4, 0#128, 0#3⟩ := by rfl

theorem test_idle_step_keeps_result :
    answer earlier = some ⟨false, 0x9#4, 0x00000004000000030000000200000001#128, 0#3⟩ := by rfl

/-- The host's next step is presented at the end of a step (70_reset_and_hazards.md R197). -/
theorem test_step_presents_pending :
    step { State.reset with pending := [Ports.ofReset, Ports.ofIdle] } =
      .next { State.reset with ports := Ports.ofReset, pending := [Ports.ofIdle] } := by rfl

/-- A placed word is the one the next step runs: CHECK.F32x4 of the quiet port A, which carries NONE
(40_issue_and_check.md R82). -/
theorem test_fetch_word_runs :
    answer (State.reset.withFetchWord 32 0xB1400000) = some ⟨true, 0x0#4, 0#128, 1#3⟩ ∧
      (State.reset.withFetchWord 32 0xB1400000).fetch = .ok .checkF32x4 := by decide +kernel

/-- `round_32` at the overflow bound `(2^25 - 1) * 2^103`: the infinity there and `MAXF_32` just below
(00_scope.md R10). -/
theorem test_round_overflow_bound :
    roundUnits binary32 32 false ((2 ^ 25 - 1) * 2 ^ 252) 1 = 0x7F800000#32 ∧
      roundUnits binary32 32 false ((2 ^ 25 - 1) * 2 ^ 252 - 1) 1 = 0x7F7FFFFF#32 := by decide +kernel

/-- `round_32` of half the smallest subnormal is 0, of three halves of it twice it (ties to even, 00_scope.md R10). -/
theorem test_round_subnormal_ties :
    roundUnits binary32 32 true 1 2 = 0x80000000#32 ∧ roundUnits binary32 32 false 3 2 = 0x00000002#32 := by
  decide +kernel

/-- `RCP_32` may answer 1.0 - 2^-12 for 1.0, exactly at the bound, and not the next pattern below
(42_arithmetic.md R114). -/
theorem test_rcp_admissible_bound :
    floatRcp binary32 (fun _ => 0x3F7FF000#32) (0x3F800000#32) = 0x3F7FF000#32 ∧
      floatRcp binary32 (fun _ => 0x3F7FEFFF#32) (0x3F800000#32) = 0x3F800000#32 := by decide +kernel

/-! Vectors of 95_test_vectors.md section 2, issued on the state after reset; ports a row does not give carry a reserved
tag. -/

/-- 95_test_vectors.md V1. -/
theorem test_v1_check_f32x4 : answer (issuing 0xB1400000#32
    ⟨0x5#4, 0x7F800000800000007FC000013F800000#128⟩
    unread
    unread
    0xFFFFFFFFFFFFFFFFFFFFFFFFFFFFFFFF#128) =
    some ⟨true, 0x5#4, 0x7F800000800000007FC000013F800000#128, 0#3⟩ := by
  rfl

/-- 95_test_vectors.md V2. -/
theorem test_v2_check_f32x4 : answer (issuing 0xB1400000#32
    ⟨0x9#4, 0x00000004000000030000000200000001#128⟩
    unread
    unread
    0xFFFFFFFFFFFFFFFFFFFFFFFFFFFFFFFF#128) =
    some ⟨true, 0x0#4, 0x00000000000000000000000000000000#128, 1#3⟩ := by
  rfl

/-- 95_test_vectors.md V4. -/
theorem test_v4_check_m32x4 : answer (issuing 0xB3400000#32
    ⟨0xD#4, 0x0000000000000000000000000000FFFF#128⟩
    unread
    unread
    0xFFFFFFFFFFFFFFFFFFFFFFFFFFFFFFFF#128) =
    some ⟨true, 0x0#4, 0x00000000000000000000000000000000#128, 1#3⟩ := by
  rfl

/-- 95_test_vectors.md V5. -/
theorem test_v5_check_i8x16 : answer (issuing 0xB2C00000#32
    ⟨0x1#4, 0x00000000000000000000000000000000#128⟩
    unread
    unread
    0xFFFFFFFFFFFFFFFFFFFFFFFFFFFFFFFF#128) =
    some ⟨true, 0x0#4, 0x00000000000000000000000000000000#128, 1#3⟩ := by
  rfl

/-- 95_test_vectors.md V6. -/
theorem test_v6_check_i8x16 : answer (issuing 0xB2C00000#32
    ⟨0x0#4, 0x00000000000000000000000000000000#128⟩
    unread
    unread
    0xFFFFFFFFFFFFFFFFFFFFFFFFFFFFFFFF#128) =
    some ⟨true, 0x0#4, 0x00000000000000000000000000000000#128, 1#3⟩ := by
  rfl

/-- 95_test_vectors.md V7. -/
theorem test_v7_reserved : answer (issuing 0x01400001#32
    ⟨0x5#4, 0x3F8000003F8000003F8000003F800000#128⟩
    ⟨0x5#4, 0x3F8000003F8000003F8000003F800000#128⟩
    unread
    0xFFFFFFFFFFFFFFFFFFFFFFFFFFFFFFFF#128) =
    some ⟨true, 0x0#4, 0x00000000000000000000000000000000#128, 4#3⟩ := by
  rfl

/-- 95_test_vectors.md V8. -/
theorem test_v8_reserved : answer (issuing 0x39400000#32
    ⟨0x5#4, 0x3F8000003F8000003F8000003F800000#128⟩
    ⟨0x5#4, 0x3F8000003F8000003F8000003F800000#128⟩
    unread
    0xFFFFFFFFFFFFFFFFFFFFFFFFFFFFFFFF#128) =
    some ⟨true, 0x0#4, 0x00000000000000000000000000000000#128, 4#3⟩ := by
  rfl

/-- 95_test_vectors.md V9. -/
theorem test_v9_reserved : answer (issuing 0x01540000#32
    ⟨0x5#4, 0x3F8000003F8000003F8000003F800000#128⟩
    ⟨0x5#4, 0x3F8000003F8000003F8000003F800000#128⟩
    unread
    0xFFFFFFFFFFFFFFFFFFFFFFFFFFFFFFFF#128) =
    some ⟨true, 0x0#4, 0x00000000000000000000000000000000#128, 4#3⟩ := by
  rfl

/-- 95_test_vectors.md V10. -/
theorem test_v10_reserved : answer (issuing 0x00C00000#32
    ⟨0x0#4, 0x00000000000000000000000000000000#128⟩
    ⟨0x0#4, 0x00000000000000000000000000000000#128⟩
    unread
    0xFFFFFFFFFFFFFFFFFFFFFFFFFFFFFFFF#128) =
    some ⟨true, 0x0#4, 0x00000000000000000000000000000000#128, 4#3⟩ := by
  rfl

/-- 95_test_vectors.md V11. -/
theorem test_v11_reserved : answer (issuing 0xFFFFFFFF#32
    ⟨0x1#4, 0x00000000000000000000000000000000#128⟩
    ⟨0x2#4, 0x00000000000000000000000000000000#128⟩
    unread
    0xFFFFFFFFFFFFFFFFFFFFFFFFFFFFFFFF#128) =
    some ⟨true, 0x0#4, 0x00000000000000000000000000000000#128, 4#3⟩ := by
  rfl

/-- 95_test_vectors.md V12. -/
theorem test_v12_add_f32x4 : answer (issuing 0x01400000#32
    ⟨0x0#4, 0x00000000000000000000000000000000#128⟩
    ⟨0x9#4, 0x00000004000000030000000200000001#128⟩
    unread
    0xFFFFFFFFFFFFFFFFFFFFFFFFFFFFFFFF#128) =
    some ⟨true, 0x0#4, 0x00000000000000000000000000000000#128, 1#3⟩ := by
  rfl

/-- 95_test_vectors.md V13. -/
theorem test_v13_add_f32x4 : answer (issuing 0x01400000#32
    ⟨0x5#4, 0x3F8000003F8000003F8000003F800000#128⟩
    ⟨0x9#4, 0x00000004000000030000000200000001#128⟩
    unread
    0xFFFFFFFFFFFFFFFFFFFFFFFFFFFFFFFF#128) =
    some ⟨true, 0x0#4, 0x00000000000000000000000000000000#128, 2#3⟩ := by
  rfl

/-- 95_test_vectors.md V14. -/
theorem test_v14_swizzle_i32x4 : answer (issuing 0x82400000#32
    ⟨0x5#4, 0x4080000040400000400000003F800000#128⟩
    unread
    unread
    0x00000000000000000000000000000009#128) =
    some ⟨true, 0x0#4, 0x00000000000000000000000000000000#128, 2#3⟩ := by
  rfl

/-- 95_test_vectors.md V15. -/
theorem test_v15_not_i32x4 : answer (issuing 0x4E400000#32
    ⟨0x9#4, 0x00000003000000020000000100000000#128⟩
    ⟨0x7#4, 0x00000000000000000000000000000005#128⟩
    ⟨0x1#4, 0x00000000000000000000000000000009#128⟩
    0xFFFFFFFFFFFFFFFFFFFFFFFFFFFFFFFF#128) =
    some ⟨true, 0x9#4, 0xFFFFFFFCFFFFFFFDFFFFFFFEFFFFFFFF#128, 0#3⟩ := by
  rfl

/-- 95_test_vectors.md V16. -/
theorem test_v16_cvt_f32x4_f64x2 : answer (issuing 0xA1500000#32
    ⟨0x4#4, 0xC0020000000000003FF8000000000000#128⟩
    unread
    unread
    0xFFFFFFFFFFFFFFFFFFFFFFFFFFFFFFFF#128) =
    some ⟨true, 0x5#4, 0x0000000000000000C01000003FC00000#128, 0#3⟩ := by
  decide +kernel

/-- 95_test_vectors.md V18. -/
theorem test_v18_cvt_i32x4_f32x4 : answer (issuing 0xA2540000#32
    ⟨0x5#4, 0x4F32D05E7FC00000BFF333333FF33333#128⟩
    unread
    unread
    0xFFFFFFFFFFFFFFFFFFFFFFFFFFFFFFFF#128) =
    some ⟨true, 0x9#4, 0x7FFFFFFF00000000FFFFFFFF00000001#128, 0#3⟩ := by
  rfl

/-- 95_test_vectors.md V19. -/
theorem test_v19_cvt_i32x4_f32x4 : answer (issuing 0xA2540000#32
    ⟨0x5#4, 0xCF32D05E800000007F800000FF800000#128⟩
    unread
    unread
    0xFFFFFFFFFFFFFFFFFFFFFFFFFFFFFFFF#128) =
    some ⟨true, 0x9#4, 0x80000000000000007FFFFFFF80000000#128, 0#3⟩ := by
  rfl

/-- 95_test_vectors.md V20. -/
theorem test_v20_cvt_f32x4_i32x4 : answer (issuing 0xA1640000#32
    ⟨0x9#4, 0x7FFFFFFF00000000FFFFFFFF01000001#128⟩
    unread
    unread
    0xFFFFFFFFFFFFFFFFFFFFFFFFFFFFFFFF#128) =
    some ⟨true, 0x5#4, 0x4F00000000000000BF8000004B800000#128, 0#3⟩ := by
  rfl

/-- 95_test_vectors.md V21. -/
theorem test_v21_cvt_i8x16_i32x4 : answer (issuing 0xA2E40000#32
    ⟨0x9#4, 0x0000007F00000080FFFFFFFF12345678#128⟩
    unread
    unread
    0xFFFFFFFFFFFFFFFFFFFFFFFFFFFFFFFF#128) =
    some ⟨true, 0xB#4, 0x0000000000000000000000007F80FF78#128, 0#3⟩ := by
  rfl

/-- 95_test_vectors.md V22. -/
theorem test_v22_cvt_i32x4_i8x16 : answer (issuing 0xA26C0000#32
    ⟨0xB#4, 0x09090909090909090909090905FF7F80#128⟩
    unread
    unread
    0xFFFFFFFFFFFFFFFFFFFFFFFFFFFFFFFF#128) =
    some ⟨true, 0x9#4, 0x00000005FFFFFFFF0000007FFFFFFF80#128, 0#3⟩ := by
  rfl

/-- 95_test_vectors.md V23. -/
theorem test_v23_cvt_i16x8_f64x2 : answer (issuing 0xA2900000#32
    ⟨0x4#4, 0xC202A05F2000000040F1170800000000#128⟩
    unread
    unread
    0xFFFFFFFFFFFFFFFFFFFFFFFFFFFFFFFF#128) =
    some ⟨true, 0xA#4, 0x00000000000000000000000080007FFF#128, 0#3⟩ := by
  decide +kernel

/-- 95_test_vectors.md V24. -/
theorem test_v24_cvt_f32x4_f64x2 : answer (issuing 0xA1500000#32
    ⟨0x4#4, 0x7FF80000000000017E37E43C8800759C#128⟩
    unread
    unread
    0xFFFFFFFFFFFFFFFFFFFFFFFFFFFFFFFF#128) =
    some ⟨true, 0x5#4, 0x00000000000000007FC000007F800000#128, 0#3⟩ := by
  decide +kernel

/-- 95_test_vectors.md V25. -/
theorem test_v25_cvt_f32x4_f32x4 : answer (issuing 0xA1540000#32
    ⟨0x5#4, 0xFFC0000000000001800000007FC00001#128⟩
    unread
    unread
    0xFFFFFFFFFFFFFFFFFFFFFFFFFFFFFFFF#128) =
    some ⟨true, 0x5#4, 0xFFC0000000000001800000007FC00001#128, 0#3⟩ := by
  rfl

/-- 95_test_vectors.md V28. -/
theorem test_v28_bitcast_i32x4_f32x4 : answer (issuing 0xA6540000#32
    ⟨0x5#4, 0x7F8000007FC00001800000003F800000#128⟩
    unread
    unread
    0xFFFFFFFFFFFFFFFFFFFFFFFFFFFFFFFF#128) =
    some ⟨true, 0x9#4, 0x7F8000007FC00001800000003F800000#128, 0#3⟩ := by
  rfl

/-- 95_test_vectors.md V29. -/
theorem test_v29_bitcast_i8x16_f64x2 : answer (issuing 0xA6D00000#32
    ⟨0x4#4, 0xC0000000000000003FF0000000000000#128⟩
    unread
    unread
    0xFFFFFFFFFFFFFFFFFFFFFFFFFFFFFFFF#128) =
    some ⟨true, 0xB#4, 0xC0000000000000003FF0000000000000#128, 0#3⟩ := by
  rfl

/-- 95_test_vectors.md V32. -/
theorem test_v32_add_f32x4 : answer (issuing 0x01400000#32
    ⟨0x5#4, 0x7FC000017F800000800000003F800000#128⟩
    ⟨0x5#4, 0x3F800000FF8000000000000040000000#128⟩
    unread
    0xFFFFFFFFFFFFFFFFFFFFFFFFFFFFFFFF#128) =
    some ⟨true, 0x5#4, 0x7FC000007FC000000000000040400000#128, 0#3⟩ := by
  rfl

/-- 95_test_vectors.md V33. -/
theorem test_v33_add_f32x4 : answer (issuing 0x01400000#32
    ⟨0x5#4, 0x8000000000000001FF7FFFFF7F7FFFFF#128⟩
    ⟨0x5#4, 0x8000000000000001FF7FFFFF7F7FFFFF#128⟩
    unread
    0xFFFFFFFFFFFFFFFFFFFFFFFFFFFFFFFF#128) =
    some ⟨true, 0x5#4, 0x8000000000000002FF8000007F800000#128, 0#3⟩ := by
  rfl

/-- 95_test_vectors.md V35. -/
theorem test_v35_add_i32x4 : answer (issuing 0x02400000#32
    ⟨0x9#4, 0x00000005FFFFFFFF800000007FFFFFFF#128⟩
    ⟨0x9#4, 0xFFFFFFF900000001FFFFFFFF00000001#128⟩
    unread
    0xFFFFFFFFFFFFFFFFFFFFFFFFFFFFFFFF#128) =
    some ⟨true, 0x9#4, 0xFFFFFFFE000000007FFFFFFF80000000#128, 0#3⟩ := by
  rfl

/-- 95_test_vectors.md V36. -/
theorem test_v36_add_i8x16 : answer (issuing 0x02C00000#32
    ⟨0xB#4, 0x00000000000000000000000001C8807F#128⟩
    ⟨0xB#4, 0x0000000000000000000000000264FF01#128⟩
    unread
    0xFFFFFFFFFFFFFFFFFFFFFFFFFFFFFFFF#128) =
    some ⟨true, 0xB#4, 0x000000000000000000000000032C7F80#128, 0#3⟩ := by
  rfl

/-- 95_test_vectors.md V37. -/
theorem test_v37_sub_f64x2 : answer (issuing 0x05000000#32
    ⟨0x4#4, 0x7FF00000000000003FF0000000000000#128⟩
    ⟨0x4#4, 0x7FF00000000000003FF0000000000000#128⟩
    unread
    0xFFFFFFFFFFFFFFFFFFFFFFFFFFFFFFFF#128) =
    some ⟨true, 0x4#4, 0x7FF80000000000000000000000000000#128, 0#3⟩ := by
  decide +kernel

/-- 95_test_vectors.md V38. -/
theorem test_v38_sub_i16x8 : answer (issuing 0x06800000#32
    ⟨0xA#4, 0x00000000000000000000000580000000#128⟩
    ⟨0xA#4, 0x00000000000000000000000700018000#128⟩
    unread
    0xFFFFFFFFFFFFFFFFFFFFFFFFFFFFFFFF#128) =
    some ⟨true, 0xA#4, 0x00000000000000000000FFFE7FFF8000#128, 0#3⟩ := by
  rfl

/-- 95_test_vectors.md V39. -/
theorem test_v39_mul_f32x4 : answer (issuing 0x09400000#32
    ⟨0x5#4, 0x404000007149F2CA7F80000080000000#128⟩
    ⟨0x5#4, 0xC00000007149F2CA0000000040A00000#128⟩
    unread
    0xFFFFFFFFFFFFFFFFFFFFFFFFFFFFFFFF#128) =
    some ⟨true, 0x5#4, 0xC0C000007F8000007FC0000080000000#128, 0#3⟩ := by
  decide +kernel

/-- 95_test_vectors.md V40. -/
theorem test_v40_mul_i32x4 : answer (issuing 0x0A400000#32
    ⟨0x9#4, 0x0000000780000000FFFFFFFF00010000#128⟩
    ⟨0x9#4, 0xFFFFFFFDFFFFFFFFFFFFFFFF00010000#128⟩
    unread
    0xFFFFFFFFFFFFFFFFFFFFFFFFFFFFFFFF#128) =
    some ⟨true, 0x9#4, 0xFFFFFFEB800000000000000100000000#128, 0#3⟩ := by
  rfl

/-- 95_test_vectors.md V41. -/
theorem test_v41_div_f32x4 : answer (issuing 0x0D400000#32
    ⟨0x5#4, 0x3F800000000000003F8000003F800000#128⟩
    ⟨0x5#4, 0x40400000000000008000000000000000#128⟩
    unread
    0xFFFFFFFFFFFFFFFFFFFFFFFFFFFFFFFF#128) =
    some ⟨true, 0x5#4, 0x3EAAAAAB7FC00000FF8000007F800000#128, 0#3⟩ := by
  rfl

/-- 95_test_vectors.md V42. -/
theorem test_v42_div_i32x4 : answer (issuing 0x0E400000#32
    ⟨0x9#4, 0x8000000000000005FFFFFFF900000007#128⟩
    ⟨0x9#4, 0xFFFFFFFF0000000000000002FFFFFFFE#128⟩
    unread
    0xFFFFFFFFFFFFFFFFFFFFFFFFFFFFFFFF#128) =
    some ⟨true, 0x9#4, 0x8000000000000000FFFFFFFDFFFFFFFD#128, 0#3⟩ := by
  rfl

/-- 95_test_vectors.md V44. -/
theorem test_v44_abs_f32x4 : answer (issuing 0x11400000#32
    ⟨0x5#4, 0xFF800000FFC0000180000000BFC00000#128⟩
    unread
    unread
    0xFFFFFFFFFFFFFFFFFFFFFFFFFFFFFFFF#128) =
    some ⟨true, 0x5#4, 0x7F8000007FC00001000000003FC00000#128, 0#3⟩ := by
  rfl

/-- 95_test_vectors.md V45. -/
theorem test_v45_abs_i32x4 : answer (issuing 0x12400000#32
    ⟨0x9#4, 0x0000000000000005FFFFFFFB80000000#128⟩
    unread
    unread
    0xFFFFFFFFFFFFFFFFFFFFFFFFFFFFFFFF#128) =
    some ⟨true, 0x9#4, 0x00000000000000050000000580000000#128, 0#3⟩ := by
  rfl

/-- 95_test_vectors.md V46. -/
theorem test_v46_neg_f64x2 : answer (issuing 0x15000000#32
    ⟨0x4#4, 0x7FF80000000000010000000000000000#128⟩
    unread
    unread
    0xFFFFFFFFFFFFFFFFFFFFFFFFFFFFFFFF#128) =
    some ⟨true, 0x4#4, 0xFFF80000000000018000000000000000#128, 0#3⟩ := by
  rfl

/-- 95_test_vectors.md V47. -/
theorem test_v47_neg_i16x8 : answer (issuing 0x16800000#32
    ⟨0xA#4, 0x00000000000000000000FFFF00018000#128⟩
    unread
    unread
    0xFFFFFFFFFFFFFFFFFFFFFFFFFFFFFFFF#128) =
    some ⟨true, 0xA#4, 0x000000000000000000000001FFFF8000#128, 0#3⟩ := by
  rfl

/-- 95_test_vectors.md V48. -/
theorem test_v48_min_f32x4 : answer (issuing 0x19400000#32
    ⟨0x5#4, 0xFF8000003F8000007FC0000080000000#128⟩
    ⟨0x5#4, 0x7F8000004000000040A0000000000000#128⟩
    unread
    0xFFFFFFFFFFFFFFFFFFFFFFFFFFFFFFFF#128) =
    some ⟨true, 0x5#4, 0xFF8000003F8000007FC0000080000000#128, 0#3⟩ := by
  rfl

/-- 95_test_vectors.md V49. -/
theorem test_v49_max_f32x4 : answer (issuing 0x1D400000#32
    ⟨0x5#4, 0xFF8000003F8000007FC0000080000000#128⟩
    ⟨0x5#4, 0x7F8000004000000040A0000000000000#128⟩
    unread
    0xFFFFFFFFFFFFFFFFFFFFFFFFFFFFFFFF#128) =
    some ⟨true, 0x5#4, 0x7F800000400000007FC0000000000000#128, 0#3⟩ := by
  rfl

/-- 95_test_vectors.md V50. -/
theorem test_v50_min_i8x16 : answer (issuing 0x1AC00000#32
    ⟨0xB#4, 0x000000000000000000000000000380FF#128⟩
    ⟨0xB#4, 0x00000000000000000000000000037F01#128⟩
    unread
    0xFFFFFFFFFFFFFFFFFFFFFFFFFFFFFFFF#128) =
    some ⟨true, 0xB#4, 0x000000000000000000000000000380FF#128, 0#3⟩ := by
  rfl

/-- 95_test_vectors.md V51. -/
theorem test_v51_max_i32x4 : answer (issuing 0x1E400000#32
    ⟨0x9#4, 0x000000000000000380000000FFFFFFFF#128⟩
    ⟨0x9#4, 0x00000000000000037FFFFFFF00000001#128⟩
    unread
    0xFFFFFFFFFFFFFFFFFFFFFFFFFFFFFFFF#128) =
    some ⟨true, 0x9#4, 0x00000000000000037FFFFFFF00000001#128, 0#3⟩ := by
  rfl

/-- 95_test_vectors.md V52. -/
theorem test_v52_minnum_f32x4 : answer (issuing 0x21400000#32
    ⟨0x5#4, 0x40400000800000007FC000007FC00000#128⟩
    ⟨0x5#4, 0x40000000000000007FC0000040A00000#128⟩
    unread
    0xFFFFFFFFFFFFFFFFFFFFFFFFFFFFFFFF#128) =
    some ⟨true, 0x5#4, 0x40000000800000007FC0000040A00000#128, 0#3⟩ := by
  rfl

/-- 95_test_vectors.md V53. -/
theorem test_v53_maxnum_f64x2 : answer (issuing 0x25000000#32
    ⟨0x4#4, 0x00000000000000007FF8000000000000#128⟩
    ⟨0x4#4, 0x80000000000000004014000000000000#128⟩
    unread
    0xFFFFFFFFFFFFFFFFFFFFFFFFFFFFFFFF#128) =
    some ⟨true, 0x4#4, 0x00000000000000004014000000000000#128, 0#3⟩ := by
  rfl

/-- 95_test_vectors.md V55. -/
theorem test_v55_clamp_f32x4 : answer (issuing 0x29400000#32
    ⟨0x5#4, 0x7FC000003F00000040A00000BF800000#128⟩
    ⟨0x5#4, 0x000000003F8000000000000000000000#128⟩
    ⟨0x5#4, 0x3F800000000000003F8000003F800000#128⟩
    0xFFFFFFFFFFFFFFFFFFFFFFFFFFFFFFFF#128) =
    some ⟨true, 0x5#4, 0x7FC000003F8000003F80000000000000#128, 0#3⟩ := by
  rfl

/-- 95_test_vectors.md V56. -/
theorem test_v56_clamp_i32x4 : answer (issuing 0x2A400000#32
    ⟨0x9#4, 0x800000000000000700000100FFFFFF00#128⟩
    ⟨0x9#4, 0xFFFFFFF6FFFFFFF6FFFFFFF6FFFFFFF6#128⟩
    ⟨0x9#4, 0x0000000A0000000A0000000A0000000A#128⟩
    0xFFFFFFFFFFFFFFFFFFFFFFFFFFFFFFFF#128) =
    some ⟨true, 0x9#4, 0xFFFFFFF6000000070000000AFFFFFFF6#128, 0#3⟩ := by
  rfl

/-- 95_test_vectors.md V57. -/
theorem test_v57_sqrt_f32x4 : answer (issuing 0x2D400000#32
    ⟨0x5#4, 0x7F800000BF8000008000000040800000#128⟩
    unread
    unread
    0xFFFFFFFFFFFFFFFFFFFFFFFFFFFFFFFF#128) =
    some ⟨true, 0x5#4, 0x7F8000007FC000008000000040000000#128, 0#3⟩ := by
  rfl

/-- 95_test_vectors.md V58. -/
theorem test_v58_sqrt_f64x2 : answer (issuing 0x2D000000#32
    ⟨0x4#4, 0x00000000000007E84000000000000000#128⟩
    unread
    unread
    0xFFFFFFFFFFFFFFFFFFFFFFFFFFFFFFFF#128) =
    some ⟨true, 0x4#4, 0x1EB67E93DDBC0E733FF6A09E667F3BCD#128, 0#3⟩ := by
  decide +kernel

/-- 95_test_vectors.md V59. -/
theorem test_v59_rcpa_f32x4 : answer (issuing 0x31400000#32
    ⟨0x5#4, 0x7FC000007F8000008000000000000000#128⟩
    unread
    unread
    0xFFFFFFFFFFFFFFFFFFFFFFFFFFFFFFFF#128) =
    some ⟨true, 0x5#4, 0x7FC0000000000000FF8000007F800000#128, 0#3⟩ := by
  rfl

/-- 95_test_vectors.md V60. -/
theorem test_v60_rsqa_f32x4 : answer (issuing 0x35400000#32
    ⟨0x5#4, 0x7F800000BF8000008000000000000000#128⟩
    unread
    unread
    0xFFFFFFFFFFFFFFFFFFFFFFFFFFFFFFFF#128) =
    some ⟨true, 0x5#4, 0x000000007FC00000FF8000007F800000#128, 0#3⟩ := by
  rfl

/-- 95_test_vectors.md V61. -/
theorem test_v61_rcpa_f64x2 : answer (issuing 0x31000000#32
    ⟨0x4#4, 0x7FF0000000000001FFF0000000000000#128⟩
    unread
    unread
    0xFFFFFFFFFFFFFFFFFFFFFFFFFFFFFFFF#128) =
    some ⟨true, 0x4#4, 0x7FF80000000000008000000000000000#128, 0#3⟩ := by
  rfl

/-- 95_test_vectors.md V63. -/
theorem test_v63_and_i32x4 : answer (issuing 0x42400000#32
    ⟨0x9#4, 0x1234567800000000FFFFFFFF0F0F0F0F#128⟩
    ⟨0x9#4, 0x0000FFFFFFFFFFFF8000000000FF00FF#128⟩
    unread
    0xFFFFFFFFFFFFFFFFFFFFFFFFFFFFFFFF#128) =
    some ⟨true, 0x9#4, 0x000056780000000080000000000F000F#128, 0#3⟩ := by
  rfl

/-- 95_test_vectors.md V64. -/
theorem test_v64_or_i16x8 : answer (issuing 0x46800000#32
    ⟨0xA#4, 0x0008000400020001FFFF0000000FF000#128⟩
    ⟨0xA#4, 0x00010002000400080000000000F00F00#128⟩
    unread
    0xFFFFFFFFFFFFFFFFFFFFFFFFFFFFFFFF#128) =
    some ⟨true, 0xA#4, 0x0009000600060009FFFF000000FFFF00#128, 0#3⟩ := by
  rfl

/-- 95_test_vectors.md V65. -/
theorem test_v65_xor_f32x4 : answer (issuing 0x49400000#32
    ⟨0x5#4, 0x7F80000000000000C00000003F800000#128⟩
    ⟨0x5#4, 0x80000000800000008000000080000000#128⟩
    unread
    0xFFFFFFFFFFFFFFFFFFFFFFFFFFFFFFFF#128) =
    some ⟨true, 0x5#4, 0xFF8000008000000040000000BF800000#128, 0#3⟩ := by
  rfl

/-- 95_test_vectors.md V66. -/
theorem test_v66_not_i8x16 : answer (issuing 0x4EC00000#32
    ⟨0xB#4, 0x000000000000000000000000A50FFF00#128⟩
    unread
    unread
    0xFFFFFFFFFFFFFFFFFFFFFFFFFFFFFFFF#128) =
    some ⟨true, 0xB#4, 0xFFFFFFFFFFFFFFFFFFFFFFFF5AF000FF#128, 0#3⟩ := by
  rfl

/-- 95_test_vectors.md V67. -/
theorem test_v67_and_m32x4 : answer (issuing 0x43400000#32
    ⟨0xD#4, 0x0000000000000000FFFFFFFFFFFFFFFF#128⟩
    ⟨0xD#4, 0x00000000FFFFFFFF00000000FFFFFFFF#128⟩
    unread
    0xFFFFFFFFFFFFFFFFFFFFFFFFFFFFFFFF#128) =
    some ⟨true, 0xD#4, 0x000000000000000000000000FFFFFFFF#128, 0#3⟩ := by
  rfl

/-- 95_test_vectors.md V70. -/
theorem test_v70_or_m32x4 : answer (issuing 0x47400000#32
    ⟨0xD#4, 0x000000000000000000000000FFFFFFFF#128⟩
    ⟨0xD#4, 0x000000000000000000000000000000FF#128⟩
    unread
    0xFFFFFFFFFFFFFFFFFFFFFFFFFFFFFFFF#128) =
    some ⟨true, 0x0#4, 0x00000000000000000000000000000000#128, 1#3⟩ := by
  rfl

/-- 95_test_vectors.md V72. -/
theorem test_v72_lt_f32x4 : answer (issuing 0x61400000#32
    ⟨0x5#4, 0xFF800000800000007FC000003F800000#128⟩
    ⟨0x5#4, 0xFF800000000000003F80000040000000#128⟩
    unread
    0xFFFFFFFFFFFFFFFFFFFFFFFFFFFFFFFF#128) =
    some ⟨true, 0xD#4, 0x000000000000000000000000FFFFFFFF#128, 0#3⟩ := by
  rfl

/-- 95_test_vectors.md V73. -/
theorem test_v73_le_f32x4 : answer (issuing 0x65400000#32
    ⟨0x5#4, 0xFF800000800000007FC000003F800000#128⟩
    ⟨0x5#4, 0xFF800000000000003F80000040000000#128⟩
    unread
    0xFFFFFFFFFFFFFFFFFFFFFFFFFFFFFFFF#128) =
    some ⟨true, 0xD#4, 0xFFFFFFFFFFFFFFFF00000000FFFFFFFF#128, 0#3⟩ := by
  rfl

/-- 95_test_vectors.md V74. -/
theorem test_v74_eq_f32x4 : answer (issuing 0x69400000#32
    ⟨0x5#4, 0xFF800000800000007FC000003F800000#128⟩
    ⟨0x5#4, 0xFF800000000000003F80000040000000#128⟩
    unread
    0xFFFFFFFFFFFFFFFFFFFFFFFFFFFFFFFF#128) =
    some ⟨true, 0xD#4, 0xFFFFFFFFFFFFFFFF0000000000000000#128, 0#3⟩ := by
  rfl

/-- 95_test_vectors.md V75. -/
theorem test_v75_ne_f32x4 : answer (issuing 0x6D400000#32
    ⟨0x5#4, 0xFF800000800000007FC000003F800000#128⟩
    ⟨0x5#4, 0xFF800000000000003F80000040000000#128⟩
    unread
    0xFFFFFFFFFFFFFFFFFFFFFFFFFFFFFFFF#128) =
    some ⟨true, 0xD#4, 0x0000000000000000FFFFFFFFFFFFFFFF#128, 0#3⟩ := by
  rfl

/-- 95_test_vectors.md V76. -/
theorem test_v76_gt_f32x4 : answer (issuing 0x71400000#32
    ⟨0x5#4, 0xFF800000800000007FC000003F800000#128⟩
    ⟨0x5#4, 0xFF800000000000003F80000040000000#128⟩
    unread
    0xFFFFFFFFFFFFFFFFFFFFFFFFFFFFFFFF#128) =
    some ⟨true, 0xD#4, 0x00000000000000000000000000000000#128, 0#3⟩ := by
  rfl

/-- 95_test_vectors.md V77. -/
theorem test_v77_ge_f32x4 : answer (issuing 0x75400000#32
    ⟨0x5#4, 0xFF800000800000007FC000003F800000#128⟩
    ⟨0x5#4, 0xFF800000000000003F80000040000000#128⟩
    unread
    0xFFFFFFFFFFFFFFFFFFFFFFFFFFFFFFFF#128) =
    some ⟨true, 0xD#4, 0xFFFFFFFFFFFFFFFF0000000000000000#128, 0#3⟩ := by
  rfl

/-- 95_test_vectors.md V78. -/
theorem test_v78_lt_i32x4 : answer (issuing 0x62400000#32
    ⟨0x9#4, 0x000000010000000780000000FFFFFFFF#128⟩
    ⟨0x9#4, 0xFFFFFFFF000000077FFFFFFF00000001#128⟩
    unread
    0xFFFFFFFFFFFFFFFFFFFFFFFFFFFFFFFF#128) =
    some ⟨true, 0xD#4, 0x0000000000000000FFFFFFFFFFFFFFFF#128, 0#3⟩ := by
  rfl

/-- 95_test_vectors.md V79. -/
theorem test_v79_ge_i16x8 : answer (issuing 0x76800000#32
    ⟨0xA#4, 0x0002000100050005FFFF00007FFF8000#128⟩
    ⟨0xA#4, 0x00010001000600050000000080007FFF#128⟩
    unread
    0xFFFFFFFFFFFFFFFFFFFFFFFFFFFFFFFF#128) =
    some ⟨true, 0xE#4, 0xFFFFFFFF0000FFFF0000FFFFFFFF0000#128, 0#3⟩ := by
  rfl

/-- 95_test_vectors.md V84. -/
theorem test_v84_eq_f32x4 : answer (issuing 0x69400000#32
    ⟨0x5#4, 0x4080000040400000400000003F800000#128⟩
    ⟨0xA#4, 0x00080007000600050004000300020001#128⟩
    unread
    0xFFFFFFFFFFFFFFFFFFFFFFFFFFFFFFFF#128) =
    some ⟨true, 0x0#4, 0x00000000000000000000000000000000#128, 2#3⟩ := by
  rfl

/-- 95_test_vectors.md V85. -/
theorem test_v85_swizzle_i32x4 : answer (issuing 0x82400000#32
    ⟨0x9#4, 0x0000000D0000000C0000000B0000000A#128⟩
    unread
    unread
    0x00000000000000000000000003020100#128) =
    some ⟨true, 0x9#4, 0x0000000D0000000C0000000B0000000A#128, 0#3⟩ := by
  rfl

/-- 95_test_vectors.md V87. -/
theorem test_v87_swizzle_i32x4 : answer (issuing 0x82400000#32
    ⟨0x9#4, 0x0000000D0000000C0000000B0000000A#128⟩
    unread
    unread
    0xFFFFFFFFFFFFFFFFFFFFFFFF02020202#128) =
    some ⟨true, 0x9#4, 0x0000000C0000000C0000000C0000000C#128, 0#3⟩ := by
  rfl

/-- 95_test_vectors.md V88. -/
theorem test_v88_swizzle_i32x4 : answer (issuing 0x82400000#32
    ⟨0x9#4, 0x0000000D0000000C0000000B0000000A#128⟩
    unread
    unread
    0x00000000000000000000000000000004#128) =
    some ⟨true, 0x0#4, 0x00000000000000000000000000000000#128, 3#3⟩ := by
  rfl

/-- 95_test_vectors.md V93. -/
theorem test_v93_shuffle_f32x4 : answer (issuing 0x85400000#32
    ⟨0x5#4, 0x4080000040400000400000003F800000#128⟩
    ⟨0x5#4, 0x4100000040E0000040C0000040A00000#128⟩
    unread
    0x00000000000000000000000005010400#128) =
    some ⟨true, 0x5#4, 0x40C000004000000040A000003F800000#128, 0#3⟩ := by
  rfl

/-- 95_test_vectors.md V95. -/
theorem test_v95_shuffle_f32x4 : answer (issuing 0x85400000#32
    ⟨0x5#4, 0x4080000040400000400000003F800000#128⟩
    ⟨0x5#4, 0x4100000040E0000040C0000040A00000#128⟩
    unread
    0x00000000000000000000000008020100#128) =
    some ⟨true, 0x0#4, 0x00000000000000000000000000000000#128, 3#3⟩ := by
  rfl

/-- 95_test_vectors.md V96. -/
theorem test_v96_shuffle_i8x16 : answer (issuing 0x86C00000#32
    ⟨0xB#4, 0x0F0E0D0C0B0A09080706050403020100#128⟩
    ⟨0xB#4, 0x1F1E1D1C1B1A19181716151413121110#128⟩
    unread
    0x1606150514041303120211010F00101F#128) =
    some ⟨true, 0xB#4, 0x1606150514041303120211010F00101F#128, 0#3⟩ := by
  rfl

/-- 95_test_vectors.md V100. -/
theorem test_v100_select_i32x4 : answer (issuing 0x92400000#32
    ⟨0xD#4, 0xFFFFFFFF0000000000000000FFFFFFFF#128⟩
    ⟨0x9#4, 0x00000004000000030000000200000001#128⟩
    ⟨0x9#4, 0xFFFFFFFCFFFFFFFDFFFFFFFEFFFFFFFF#128⟩
    0xFFFFFFFFFFFFFFFFFFFFFFFFFFFFFFFF#128) =
    some ⟨true, 0x9#4, 0x00000004FFFFFFFDFFFFFFFE00000001#128, 0#3⟩ := by
  rfl

/-- 95_test_vectors.md V104. -/
theorem test_v104_select_f64x2 : answer (issuing 0x91000000#32
    ⟨0xC#4, 0x0000000000000000FFFFFFFFFFFFFFFF#128⟩
    ⟨0x4#4, 0x00000000000000007FF8000000000001#128⟩
    ⟨0x4#4, 0xFFF00000000000000000000000000000#128⟩
    0xFFFFFFFFFFFFFFFFFFFFFFFFFFFFFFFF#128) =
    some ⟨true, 0x4#4, 0xFFF00000000000007FF8000000000001#128, 0#3⟩ := by
  rfl

/-- 95_test_vectors.md V105. -/
theorem test_v105_select_f32x4 : answer (issuing 0x91400000#32
    ⟨0xD#4, 0x000000000000000000000000FFFF0000#128⟩
    ⟨0x5#4, 0x4080000040400000400000003F800000#128⟩
    ⟨0x5#4, 0x4100000040E0000040C0000040A00000#128⟩
    0xFFFFFFFFFFFFFFFFFFFFFFFFFFFFFFFF#128) =
    some ⟨true, 0x0#4, 0x00000000000000000000000000000000#128, 1#3⟩ := by
  rfl

/-- 95_test_vectors.md V106. -/
theorem test_v106_select_f32x4 : answer (issuing 0x91400000#32
    ⟨0xE#4, 0xFFFFFFFFFFFFFFFFFFFFFFFFFFFFFFFF#128⟩
    ⟨0x5#4, 0x4080000040400000400000003F800000#128⟩
    ⟨0x5#4, 0x4100000040E0000040C0000040A00000#128⟩
    0xFFFFFFFFFFFFFFFFFFFFFFFFFFFFFFFF#128) =
    some ⟨true, 0x0#4, 0x00000000000000000000000000000000#128, 2#3⟩ := by
  rfl

/-- 95_test_vectors.md V107. -/
theorem test_v107_select_f32x4 : answer (issuing 0x91400000#32
    ⟨0x9#4, 0x000000000000000000000000FFFFFFFF#128⟩
    ⟨0x5#4, 0x4080000040400000400000003F800000#128⟩
    ⟨0x5#4, 0x4100000040E0000040C0000040A00000#128⟩
    0xFFFFFFFFFFFFFFFFFFFFFFFFFFFFFFFF#128) =
    some ⟨true, 0x0#4, 0x00000000000000000000000000000000#128, 2#3⟩ := by
  rfl

/-- 95_test_vectors.md V108. -/
theorem test_v108_bitselect_i32x4 : answer (issuing 0x96400000#32
    ⟨0x9#4, 0xFFFF0000FFFF0000FFFF0000FFFF0000#128⟩
    ⟨0x9#4, 0x77778888555566663333444411112222#128⟩
    ⟨0x9#4, 0x00001111EEEEFFFFCCCCDDDDAAAABBBB#128⟩
    0xFFFFFFFFFFFFFFFFFFFFFFFFFFFFFFFF#128) =
    some ⟨true, 0x9#4, 0x777711115555FFFF3333DDDD1111BBBB#128, 0#3⟩ := by
  rfl

/-- 95_test_vectors.md V109. -/
theorem test_v109_bitselect_f32x4 : answer (issuing 0x95400000#32
    ⟨0xD#4, 0xFFFFFFFFFFFFFFFFFFFFFFFFFFFFFFFF#128⟩
    ⟨0x5#4, 0x4080000040400000400000003F800000#128⟩
    ⟨0x5#4, 0x4100000040E0000040C0000040A00000#128⟩
    0xFFFFFFFFFFFFFFFFFFFFFFFFFFFFFFFF#128) =
    some ⟨true, 0x5#4, 0x4080000040400000400000003F800000#128, 0#3⟩ := by
  rfl

/-- 95_test_vectors.md V111. -/
theorem test_v111_bitselect_f32x4 : answer (issuing 0x95400000#32
    ⟨0x9#4, 0x7FFFFFFF7FFFFFFF7FFFFFFF7FFFFFFF#128⟩
    ⟨0x5#4, 0x4080000040400000400000003F800000#128⟩
    ⟨0x5#4, 0xBF800000BF800000BF800000BF800000#128⟩
    0xFFFFFFFFFFFFFFFFFFFFFFFFFFFFFFFF#128) =
    some ⟨true, 0x5#4, 0xC0800000C0400000C0000000BF800000#128, 0#3⟩ := by
  rfl

/-- 95_test_vectors.md V112. -/
theorem test_v112_bitselect_i16x8 : answer (issuing 0x96800000#32
    ⟨0xF#4, 0x00FF00FF00FF00FF00FF00FF00FF00FF#128⟩
    ⟨0xA#4, 0x11221122112211221122112211221122#128⟩
    ⟨0xA#4, 0x33443344334433443344334433443344#128⟩
    0xFFFFFFFFFFFFFFFFFFFFFFFFFFFFFFFF#128) =
    some ⟨true, 0xA#4, 0x33223322332233223322332233223322#128, 0#3⟩ := by
  rfl

/-! The host's own work outside the block. -/

/-- 30_encoding.md R68: bytes 0 to 3 = 3, 2, 1, 0 name the reversal of four lanes; R69: an index that is no integer in
0 to 255 becomes 0xFF. -/
theorem test_index_word :
    (pseudoRev .i32x4).idx = 0x00010203#128 ∧
      encodeIndices [.int (-1), .int 255, .int 256, .notInteger] = 0xFFFFFFFF#128 := by decide +kernel

/-- 20_memory.md R47: its example, LOAD I32x4 at index 1 and at index 2. -/
theorem test_load_example :
    hostLoad .i32x4 (.int32 [1#32, 2#32, 3#32, 4#32, 5#32]) (.int 1) =
        .ok ⟨0x9#4, 0x00000005000000040000000300000002#128⟩ ∧
      hostLoad .i32x4 (.int32 [1#32, 2#32, 3#32, 4#32, 5#32]) (.int 2) = .error .rangeError := by decide +kernel

/-- 20_memory.md R48: its example, LOAD2 and LOAD3 of a buffer of two. -/
theorem test_load_prefix_example :
    hostLoadPrefix .i32x4 2 (.int32 [7#32, 8#32]) (.int 0) = .ok ⟨0x9#4, 0x0000000800000007#128⟩ ∧
      hostLoadPrefix .i32x4 3 (.int32 [7#32, 8#32]) (.int 0) = .error .rangeError := by decide +kernel

/-- 20_memory.md R50: its example, STORE3. -/
theorem test_store_prefix_example :
    hostStorePrefix .i32x4 3 (.int32 [0#32, 0#32, 0#32, 0#32]) (.int 0)
      ⟨0x9#4, 0x00000006000000070000000800000009#128⟩ = .ok (.int32 [9#32, 8#32, 7#32, 0#32]) := by decide +kernel

/-- 20_memory.md R51: a transfer from a negative index or from none is a RangeError. -/
theorem test_transfer_range_errors :
    hostLoad .f64x2 (.float64 [1#64, 2#64]) (.int (-1)) = .error .rangeError ∧
      hostLoad .f64x2 (.float64 [1#64, 2#64]) .notInteger = .error .rangeError := by decide +kernel

/-- 20_memory.md R46: no legal call with a buffer of another element kind, be it of the same width, nor for a mask
shape; R48: F64x2 has no LOAD2. -/
theorem test_transfer_illegal_calls :
    hostLoad .f32x4 (.int32 [1#32, 2#32, 3#32, 4#32]) (.int 0) = .error .notACall ∧
      hostStore .i32x4 (.float32 [1#32, 2#32, 3#32, 4#32]) (.int 0) ⟨0x9#4, 0#128⟩ = .error .notACall ∧
      hostLoad .m32x4 (.int32 [1#32, 2#32, 3#32, 4#32]) (.int 0) = .error .notACall ∧
      hostLoadPrefix .f64x2 2 (.float64 [1#64, 2#64]) (.int 0) = .error .notACall := by decide +kernel

/-- 30_encoding.md R73: the text of an instruction is its mnemonic of section 7. -/
theorem test_instruction_text :
    instrText .addI32x4 = "ADD.I32x4" ∧ instrText .cvtF32x4I32x4 = "CVT.F32x4.I32x4" := by decide +kernel

/-! Witnesses of the statements' hypotheses. -/

theorem proper_of {v : Value} (h : isValue v = true) : Proper v := (isValue_iff_proper v).1 h

theorem not_proper_of {v : Value} (h : isValue v = false) : ¬ Proper v := (isValue_eq_false_iff v).1 h

theorem holds_of {v : Value} {sh : Shape} (ht : v.tag = Shape.tag sh) (h : isValue v = true) : Holds v sh :=
  ⟨ht, proper_of h⟩

/-- An issue whose three operand ports carry the given data under one shape's tag. -/
def operands (sh : Shape) (a b c idx : Data) : State :=
  issuing 0#32 ⟨Shape.tag sh, a⟩ ⟨Shape.tag sh, b⟩ ⟨Shape.tag sh, c⟩ idx

/-- Any data is a value under a numeric tag. -/
theorem operands_numeric (sh : Shape) (h : isNumeric sh = true) (a b c idx : Data) :
    ReadyABC (operands sh a b c idx) sh := by
  have hv : ∀ d : Data, isValue ⟨Shape.tag sh, d⟩ = true := by
    intro d
    have ht : validTag (Shape.tag sh) = true ∧ isMaskTag (Shape.tag sh) = false := by
      revert h; cases sh <;> decide
    exact isValue_of_not_mask _ ht.1 ht.2
  exact ⟨⟨rfl, proper_of (hv a)⟩, ⟨rfl, proper_of (hv b)⟩, ⟨rfl, proper_of (hv c)⟩⟩

/-- A value of every shape: under each mask tag its lanes are full or clear. -/
def halfOnes : Data := 0x0000000000000000FFFFFFFFFFFFFFFF#128

theorem holds_halfOnes (sh : Shape) : Holds ⟨Shape.tag sh, halfOnes⟩ sh := by
  cases sh <;> exact holds_of rfl (by rfl)

theorem operands_halfOnes (sh : Shape) (idx : Data) :
    ReadyABC (operands sh halfOnes halfOnes halfOnes idx) sh :=
  ⟨holds_halfOnes sh, holds_halfOnes sh, holds_halfOnes sh⟩

theorem typeMismatch_iff (i : Instr) (s : State) : TypeMismatchHolds i s ↔
    typeFault (portsRead i s) = true ∨ (Instr.opc i = .check ∧ s.ports.a.tag ≠ Shape.tag (Instr.shape i)) := by
  simp only [TypeMismatchHolds, typeFault_eq_true_iff, isValue_eq_false_iff]

theorem no_typeMismatch {i : Instr} {s : State} (h : typeFault (portsRead i s) = false)
    (hc : Instr.opc i ≠ .check ∨ s.ports.a.tag = Shape.tag (Instr.shape i)) : ¬ TypeMismatchHolds i s := by
  rw [typeMismatch_iff]; rintro (h' | ⟨h1, h2⟩)
  · simp [h] at h'
  · exact hc.elim (fun c => c h1) h2

theorem no_shapeMismatch {i : Instr} {s : State} (h : shapeFault (portsRead i s) = false) :
    ¬ ShapeMismatchHolds i s := by
  rintro ⟨p, hp, -, t, ht, hne⟩
  exact hne ((shapeFault_eq_false_iff _).1 h p hp t ht)

theorem no_rangeError {i : Instr} {s : State}
    (h : ∀ l, indexLimit i = some l → rangeFault (shapeLanes (Instr.shape i)) l s.ports.idx = false) :
    ¬ RangeErrorHolds i s := by
  rintro ⟨l, hl, k, hk, hle⟩
  exact absurd ((rangeFault_eq_false_iff _ _ _).1 (h l hl) k hk) (by omega)

theorem witness_ResetStepWritesResetValues :
    (State.powerUp { Ports.ofReset with opValid := true, op := 0xFFFFFFFF#32 } []).ports.reset = true := rfl

theorem witness_IdleStepClearsOnlyValid :
    earlier.ports.reset = false ∧ earlier.ports.opValid = false ∧ earlier.resValid = true := ⟨rfl, rfl, rfl⟩

/-- Issues of NOT.I32x4, one with a host step pending and one with none. -/
def notIssue (ps : List Ports) : State :=
  { issuing 0x4E400000#32 ⟨0x9#4, 5#128⟩ unread unread 0#128 with pending := ps }

theorem witness_StepRunsDecodedInstruction_pending :
    (notIssue [Ports.ofReset]).ports.reset = false ∧ (notIssue [Ports.ofReset]).ports.opValid = true ∧
      decodeWord (notIssue [Ports.ofReset]).ports.op = .ok .notI32x4 ∧
      ∃ t, exec .notI32x4 (notIssue [Ports.ofReset]) = .next t ∧ t.pending = Ports.ofReset :: [] :=
  ⟨rfl, rfl, rfl, _, rfl, rfl⟩

theorem witness_StepRunsDecodedInstruction_nothing_pending :
    (notIssue []).ports.reset = false ∧ (notIssue []).ports.opValid = true ∧
      decodeWord (notIssue []).ports.op = .ok .notI32x4 ∧
      ∃ t, exec .notI32x4 (notIssue []) = .next t ∧ t.pending = [] := ⟨rfl, rfl, rfl, _, rfl, rfl⟩

theorem witness_StepTakesHostInputsInOrder :
    (∃ t, step (notIssue [Ports.ofReset]) = .next t) ∧ (notIssue [Ports.ofReset]).pending = Ports.ofReset :: [] ∧
      (∃ t, step (notIssue []) = .next t) ∧ (notIssue []).pending = [] := ⟨⟨_, rfl⟩, rfl, ⟨_, rfl⟩, rfl⟩

/-- The reserved words next to ADD.F32x4: the lowest reserved bit, the highest, a non-zero SSHAPE, a reserved SHAPE and
a reserved OPC. -/
theorem witness_ReservedWordRaisesIllegalOp : ∀ w ∈ [0x01400001#32, 0x01420000#32, 0x01440000#32, 0x01C00000#32,
    0x39400000#32], (issuing w unread unread unread 0#128).ports.reset = false ∧
      (issuing w unread unread unread 0#128).ports.opValid = true ∧
      legalWord (issuing w unread unread unread 0#128).ports.op = false := by
  intro w hw
  fin_cases hw <;> exact ⟨rfl, rfl, by rfl⟩

theorem witness_PowerUpContentsNeverShowAfterIssue :
    (Ports.ofReset.reset = true ∨ Ports.ofReset.opValid = true) ∧
      ((Ports.ofIssue 0x4E400000#32 ⟨0x9#4, 5#128⟩ unread unread 0#128).reset = true ∨
        (Ports.ofIssue 0x4E400000#32 ⟨0x9#4, 5#128⟩ unread unread 0#128).opValid = true) :=
  ⟨.inl rfl, .inr rfl⟩

theorem witness_DecodeSucceedsExactlyOnLegalWords :
    (∃ i, decodeWord 0x4E400000#32 = .ok i) ∧ legalWord 0x4E400000#32 = true ∧ legalWord 0x4E400001#32 = false :=
  ⟨⟨.notI32x4, rfl⟩, rfl, rfl⟩

/-- NONE on port A of ADD.F32x4, a malformed mask on SELECT's, an I32x4 value on CHECK.F32x4's. -/
theorem witness_TypeMismatchLeavesNoneAndZero :
    TypeMismatchHolds .addF32x4 (issuing 0#32 ⟨0x0#4, 0#128⟩ ⟨0x5#4, 0#128⟩ unread 0#128) ∧
      TypeMismatchHolds .selectF32x4 (issuing 0#32 ⟨0xD#4, 0xFFFF#128⟩ ⟨0x5#4, 0#128⟩ ⟨0x5#4, 0#128⟩ 0#128) ∧
      TypeMismatchHolds .checkF32x4 (issuing 0#32 ⟨0x9#4, 0#128⟩ unread unread 0#128) := by
  refine ⟨?_, ?_, ?_⟩ <;> rw [typeMismatch_iff] <;> decide +kernel

/-- An I32x4 value on port B of ADD.F32x4. -/
theorem witness_ShapeMismatchLeavesNoneAndZero :
    ¬ TypeMismatchHolds .addF32x4 (issuing 0#32 ⟨0x5#4, 0#128⟩ ⟨0x9#4, 0#128⟩ unread 0#128) ∧
      ShapeMismatchHolds .addF32x4 (issuing 0#32 ⟨0x5#4, 0#128⟩ ⟨0x9#4, 0#128⟩ unread 0#128) :=
  ⟨no_typeMismatch (by rfl) (.inl (by decide)),
    ⟨⟨0x9#4, 0#128⟩, some 0x5#4⟩, .tail _ (.head _), by decide, 0x5#4, rfl, by decide⟩

/-- The least bad index in the last lane that counts: 4 in lane 3 of SWIZZLE.I32x4, 8 in lane 3 of SHUFFLE.I32x4. -/
theorem witness_RangeErrorLeavesNoneAndZero :
    (¬ TypeMismatchHolds .swizzleI32x4 (operands .i32x4 1 2 3 0x04030201#128) ∧
      ¬ ShapeMismatchHolds .swizzleI32x4 (operands .i32x4 1 2 3 0x04030201#128) ∧
      RangeErrorHolds .swizzleI32x4 (operands .i32x4 1 2 3 0x04030201#128)) ∧
    (¬ TypeMismatchHolds .shuffleI32x4 (operands .i32x4 1 2 3 0x08070605#128) ∧
      ¬ ShapeMismatchHolds .shuffleI32x4 (operands .i32x4 1 2 3 0x08070605#128) ∧
      RangeErrorHolds .shuffleI32x4 (operands .i32x4 1 2 3 0x08070605#128)) :=
  ⟨⟨no_typeMismatch (by rfl) (.inl (by decide)), no_shapeMismatch (by rfl), 4, rfl, 3, by decide, by decide +kernel⟩,
    ⟨no_typeMismatch (by rfl) (.inl (by decide)), no_shapeMismatch (by rfl), 8, rfl, 3, by decide, by decide +kernel⟩⟩

/-- The greatest good indices, and a bad index in a byte that does not count. -/
theorem witness_ReadyOperationDelivers :
    ¬ TypeMismatchHolds .swizzleI32x4 (operands .i32x4 1 2 3 0xFF03030303#128) ∧
      ¬ ShapeMismatchHolds .swizzleI32x4 (operands .i32x4 1 2 3 0xFF03030303#128) ∧
      ¬ RangeErrorHolds .swizzleI32x4 (operands .i32x4 1 2 3 0xFF03030303#128) :=
  ⟨no_typeMismatch (by rfl) (.inl (by decide)), no_shapeMismatch (by rfl),
    no_rangeError (fun l hl => by cases hl; rfl)⟩

/-- CHECK.M8x16 of a mask of its shape. -/
theorem witness_ReadyOperationDelivers_check :
    ¬ TypeMismatchHolds .checkM8x16 (operands .m8x16 halfOnes 0 0 0) ∧
      ¬ ShapeMismatchHolds .checkM8x16 (operands .m8x16 halfOnes 0 0 0) ∧
      ¬ RangeErrorHolds .checkM8x16 (operands .m8x16 halfOnes 0 0 0) :=
  ⟨no_typeMismatch (by rfl) (.inr rfl), no_shapeMismatch (by rfl), no_rangeError (fun l hl => by cases hl)⟩

/-- The premises of the five codes: a reserved word, and the three error states and the ready state above with words
that decode to their instructions. -/
theorem witness_ErrorCodeFollowsPriority :
    legalWord 0xFFFFFFFF#32 = false ∧ decodeWord 0x01400000#32 = .ok .addF32x4 ∧
      decodeWord 0x82400000#32 = .ok .swizzleI32x4 ∧
      TypeMismatchHolds .addF32x4 (issuing 0x01400000#32 ⟨0x0#4, 0#128⟩ ⟨0x9#4, 0#128⟩ unread 0#128) ∧
      (¬ TypeMismatchHolds .addF32x4 (issuing 0x01400000#32 ⟨0x5#4, 0#128⟩ ⟨0x9#4, 0#128⟩ unread 0#128) ∧
        ShapeMismatchHolds .addF32x4 (issuing 0x01400000#32 ⟨0x5#4, 0#128⟩ ⟨0x9#4, 0#128⟩ unread 0#128)) ∧
      (¬ TypeMismatchHolds .swizzleI32x4 (issuing 0x82400000#32 ⟨0x9#4, 0#128⟩ unread unread 4#128) ∧
        ¬ ShapeMismatchHolds .swizzleI32x4 (issuing 0x82400000#32 ⟨0x9#4, 0#128⟩ unread unread 4#128) ∧
        RangeErrorHolds .swizzleI32x4 (issuing 0x82400000#32 ⟨0x9#4, 0#128⟩ unread unread 4#128)) ∧
      (¬ TypeMismatchHolds .swizzleI32x4 (issuing 0x82400000#32 ⟨0x9#4, 0#128⟩ unread unread 3#128) ∧
        ¬ ShapeMismatchHolds .swizzleI32x4 (issuing 0x82400000#32 ⟨0x9#4, 0#128⟩ unread unread 3#128) ∧
        ¬ RangeErrorHolds .swizzleI32x4 (issuing 0x82400000#32 ⟨0x9#4, 0#128⟩ unread unread 3#128)) := by
  refine ⟨by rfl, by rfl, by rfl, ?_, ⟨?_, ?_⟩, ⟨?_, ?_, ?_⟩, ⟨?_, ?_, ?_⟩⟩
  · rw [typeMismatch_iff]; decide +kernel
  · exact no_typeMismatch (by rfl) (.inl (by decide))
  · exact ⟨⟨⟨0x9#4, 0#128⟩, some 0x5#4⟩, .tail _ (.head _), by decide, 0x5#4, rfl, by decide⟩
  · exact no_typeMismatch (by rfl) (.inl (by decide))
  · exact no_shapeMismatch (by rfl)
  · exact ⟨4, rfl, 0, by decide, by decide +kernel⟩
  · exact no_typeMismatch (by rfl) (.inl (by decide))
  · exact no_shapeMismatch (by rfl)
  · exact no_rangeError (fun l hl => by cases hl; rfl)

/-- Two states with the same ports and different result registers. -/
theorem witness_OperationsWriteOnlyResultRegister :
    (∃ t, exec .notI32x4 (notIssue []) = .next t) ∧
      { notIssue [] with resTag := 0xF#4 }.ports = (notIssue []).ports ∧
      ∃ t, exec .notI32x4 { notIssue [] with resTag := 0xF#4 } = .next t := ⟨⟨_, rfl⟩, rfl, ⟨_, rfl⟩⟩

theorem witness_ResultDependsOnIssueInputsOnly :
    (notIssue []).ports = { notIssue [Ports.ofReset] with resTag := 0xF#4 }.ports ∧
      (notIssue []).ports.opValid = true ∧ (∃ t, step (notIssue []) = .next t) ∧
      (∃ t, step { notIssue [Ports.ofReset] with resTag := 0xF#4 } = .next t) ∧
      { State.reset with ports := Ports.ofReset }.ports = { earlier with ports := Ports.ofReset }.ports ∧
      Ports.ofReset.reset = true ∧ (∃ t, step { State.reset with ports := Ports.ofReset } = .next t) ∧
      ∃ t, step { earlier with ports := Ports.ofReset } = .next t :=
  ⟨rfl, rfl, ⟨_, rfl⟩, ⟨_, rfl⟩, rfl, rfl, ⟨_, rfl⟩, ⟨_, rfl⟩⟩

/-- Two issues of SWIZZLE.I32x4 that differ in ports B and C and in index byte 4, the first that does not count. -/
theorem witness_UnreadPortsAreIgnored :
    portsRead .swizzleI32x4 (issuing 0#32 ⟨0x9#4, 7#128⟩ unread unread 0x0103020100#128) =
        portsRead .swizzleI32x4 (issuing 0#32 ⟨0x9#4, 7#128⟩ ⟨0x0#4, 1#128⟩ ⟨0xD#4, 1#128⟩ 0xFF03020100#128) ∧
      indexLimit .swizzleI32x4 ≠ none ∧
      (∀ k, k < shapeLanes (Instr.shape .swizzleI32x4) →
        laneIndex 0x0103020100#128 k = laneIndex 0xFF03020100#128 k) ∧
      (∃ t, exec .swizzleI32x4 (issuing 0#32 ⟨0x9#4, 7#128⟩ unread unread 0x0103020100#128) = .next t) ∧
      ∃ t, exec .swizzleI32x4 (issuing 0#32 ⟨0x9#4, 7#128⟩ ⟨0x0#4, 1#128⟩ ⟨0xD#4, 1#128⟩ 0xFF03020100#128) = .next t :=
  ⟨rfl, by decide, by decide +kernel, ⟨_, rfl⟩, ⟨_, rfl⟩⟩

theorem witness_EveryStepKeepsResultOk :
    ResultOk State.reset ∧ (∃ t, step State.reset = .next t) ∧ ResultOk earlier ∧ (∃ t, step earlier = .next t) ∧
      ResultOk { State.reset with resErr := 4#3 } :=
  ⟨.inl ⟨rfl, rfl, by decide⟩, ⟨_, rfl⟩, .inr ⟨proper_of (by rfl), rfl⟩, ⟨_, rfl⟩, .inl ⟨rfl, rfl, by decide⟩⟩

theorem witness_IssueOrResetEstablishesResultOk :
    (State.powerUp Ports.ofReset []).ports.reset = true ∧ (notIssue []).ports.opValid = true := ⟨rfl, rfl⟩

/-- `MAX`, `MIN` and -1 against 1 in each of the three widths, and a third operand. -/
theorem witness_IntegerAddSubMulLanes :
    ReadyAB (operands .i32x4 0x7FFFFFFF80000000FFFFFFFF00000001#128 1#128 0#128 0#128) .i32x4 ∧
      ReadyAB (operands .i16x8 0x7FFF8000FFFF0001#128 1#128 0#128 0#128) .i16x8 ∧
      ReadyAB (operands .i8x16 0x7F80FF01#128 1#128 0#128 0#128) .i8x16 :=
  have h := fun sh hn a => (operands_numeric sh hn a 1#128 0#128 0#128)
  ⟨⟨(h _ rfl _).1, (h _ rfl _).2.1⟩, ⟨(h _ rfl _).1, (h _ rfl _).2.1⟩, ⟨(h _ rfl _).1, (h _ rfl _).2.1⟩⟩

/-- A divisor lane 0, `MIN / -1`, and a quotient with a remainder. -/
theorem witness_IntegerDivLanes :
    ReadyAB (operands .i32x4 0x80000000FFFFFFF900000005#128 0xFFFFFFFF0000000200000000#128 0 0) .i32x4 ∧
      (laneB (operands .i32x4 0x80000000FFFFFFF900000005#128 0xFFFFFFFF0000000200000000#128 0 0) .i32x4 0).toInt = 0 ∧
      (laneB (operands .i32x4 0x80000000FFFFFFF900000005#128 0xFFFFFFFF0000000200000000#128 0 0) .i32x4 2).toInt = -1 ∧
      ReadyAB (operands .i16x8 0x80000005#128 0xFFFF0000#128 0 0) .i16x8 ∧
      ReadyAB (operands .i8x16 0x8005#128 0xFF00#128 0 0) .i8x16 :=
  have h := fun sh hn a b => (operands_numeric sh hn a b 0 0)
  ⟨⟨(h _ rfl _ _).1, (h _ rfl _ _).2.1⟩, by decide +kernel, by decide +kernel,
    ⟨(h _ rfl _ _).1, (h _ rfl _ _).2.1⟩, ⟨(h _ rfl _ _).1, (h _ rfl _ _).2.1⟩⟩

/-- `MIN` in the last lane of each width. -/
theorem witness_IntegerAbsNegLanes :
    (ReadyA (operands .i32x4 (0x80000000#128 <<< 96) 0 0 0) .i32x4 ∧
      laneA (operands .i32x4 (0x80000000#128 <<< 96) 0 0 0) .i32x4 3 = BitVec.intMin _) ∧
    (ReadyA (operands .i16x8 (0x8000#128 <<< 112) 0 0 0) .i16x8 ∧
      laneA (operands .i16x8 (0x8000#128 <<< 112) 0 0 0) .i16x8 7 = BitVec.intMin _) ∧
    (ReadyA (operands .i8x16 (0x80#128 <<< 120) 0 0 0) .i8x16 ∧
      laneA (operands .i8x16 (0x80#128 <<< 120) 0 0 0) .i8x16 15 = BitVec.intMin _) :=
  have h := fun sh hn a => (operands_numeric sh hn a 0 0 0).1
  ⟨⟨h _ rfl _, by decide +kernel⟩, ⟨h _ rfl _, by decide +kernel⟩, ⟨h _ rfl _, by decide +kernel⟩⟩

/-- Bounds in order, and a lower bound above the upper one. -/
theorem witness_IntegerMinMaxClampLanes : ∀ sh ∈ [Shape.i32x4, .i16x8, .i8x16],
    ReadyABC (operands sh 5 0 10 0) sh ∧ ReadyABC (operands sh 5 10 0 0) sh ∧ ReadyAB (operands sh 5 0 10 0) sh := by
  intro sh h
  have hn : isNumeric sh = true := by revert sh; decide
  exact ⟨operands_numeric _ hn _ _ _ _, operands_numeric _ hn _ _ _ _,
    (operands_numeric _ hn _ _ _ _).1, (operands_numeric _ hn _ _ _ _).2.1⟩

theorem witness_RoundUnitsIsRoundTiesToEven : (binary32, 32) ∈ floatFormats ∧ (binary64, 64) ∈ floatFormats ∧
    0 < (2 ^ 25 - 1) * 2 ^ 252 ∧ 0 < 1 := by decide +kernel

theorem fval_one32 : fval binary32 0x3F800000#32 = .fin false (2 ^ 149) := by decide +kernel
theorem fval_one64 : fval binary64 0x3FF0000000000000#64 = .fin false (2 ^ 1074) := by decide +kernel
theorem rat_one32 : ratOf binary32 (.fin false (2 ^ 149)) = 1 := by
  norm_num [ratOf, signedMag, unitExp, binary32]
set_option exponentiation.threshold 2000 in
theorem rat_one64 : ratOf binary64 (.fin false (2 ^ 1074)) = 1 := by
  have h : unitExp binary64 = 1074 := rfl
  simp only [ratOf, signedMag, h]
  push_cast
  exact div_self (by positivity)

/-- 1.0 and 1.0: the sum, product and quotient are not zero; and 1.0 and +0.0 for the difference. -/
theorem witness_FloatArithmeticIsCorrectlyRounded :
    IsFinite binary32 0x3F800000#32 ∧ IsFinite binary32 0x00000000#32 ∧
      ratOf binary32 (fval binary32 0x3F800000#32) + ratOf binary32 (fval binary32 0x3F800000#32) ≠ 0 ∧
      ratOf binary32 (fval binary32 0x3F800000#32) - ratOf binary32 (fval binary32 0x00000000#32) ≠ 0 ∧
      ratOf binary32 (fval binary32 0x3F800000#32) * ratOf binary32 (fval binary32 0x3F800000#32) ≠ 0 ∧
      ratOf binary32 (fval binary32 0x3F800000#32) ≠ 0 ∧
      IsFinite binary64 0x3FF0000000000000#64 ∧ ratOf binary64 (fval binary64 0x3FF0000000000000#64) ≠ 0 := by
  have h0 : fval binary32 0x00000000#32 = .fin false 0 := by decide +kernel
  have h1 : ratOf binary32 (.fin false 0) = 0 := by simp [ratOf, signedMag]
  refine ⟨⟨_, _, fval_one32⟩, ⟨_, _, h0⟩, ?_, ?_, ?_, ?_, ⟨_, _, fval_one64⟩, ?_⟩ <;>
    simp only [fval_one32, fval_one64, h0, rat_one32, rat_one64, h1] <;> norm_num

/-- 1.0 and the smallest subnormal of each format. -/
theorem witness_SquareRootIsCorrectlyRounded :
    fval binary32 0x3F800000#32 = .fin false (2 ^ 149) ∧ 2 ^ 149 ≠ 0 ∧
      fval binary32 0x00000001#32 = .fin false 1 ∧ fval binary64 0x0000000000000001#64 = .fin false 1 := by
  decide +kernel

/-- A pattern of each class in each format: NaNs, infinities, zeros and finite values of both signs. -/
theorem witness_FloatSpecialCases :
    isNaN binary32 0x7F800001#32 = true ∧ fval binary32 0x7F800000#32 = .inf false ∧
      fval binary32 0xFF800000#32 = .inf true ∧ fval binary32 0x80000000#32 = .fin true 0 ∧
      fval binary32 0x00000000#32 = .fin false 0 ∧ fval binary32 0x80000001#32 = .fin true 1 ∧
      fval binary32 0x00000001#32 = .fin false 1 ∧
      isNaN binary64 0x7FF0000000000001#64 = true ∧ fval binary64 0x7FF0000000000000#64 = .inf false ∧
      fval binary64 0xFFF0000000000000#64 = .inf true ∧ fval binary64 0x8000000000000000#64 = .fin true 0 ∧
      fval binary64 0x0000000000000000#64 = .fin false 0 ∧ fval binary64 0x8000000000000001#64 = .fin true 1 ∧
      fval binary64 0x0000000000000001#64 = .fin false 1 := by
  decide +kernel

theorem float_ready (sh : Shape) (h : sh ∈ [Shape.f64x2, .f32x4]) (a b c : Data) :
    ReadyABC (operands sh a b c 0) sh := operands_numeric sh (by revert sh; decide) a b c 0

/-- NaN payloads, infinities, both zeros and finite values in the lanes. -/
theorem witness_FloatArithmeticLanes : ∀ sh ∈ [Shape.f64x2, .f32x4],
    ReadyAB (operands sh 0x7FC000017F800000800000003F800000#128 0x3F800000FF8000000000000040000000#128 0 0) sh ∧
      ReadyA (operands sh 0x7F800000BF8000008000000040800000#128 0 0 0) sh := fun sh h =>
  ⟨⟨(float_ready sh h _ _ _).1, (float_ready sh h _ _ _).2.1⟩, (float_ready sh h _ _ _).1⟩

theorem witness_FloatAbsNegChangeOnlySign : ∀ sh ∈ [Shape.f64x2, .f32x4],
    ReadyA (operands sh 0xFF800000FFC0000180000000BFC00000#128 0 0 0) sh := fun sh h => (float_ready sh h _ _ _).1

theorem witness_FloatMinMaxLanes : ∀ sh ∈ [Shape.f64x2, .f32x4],
    ReadyABC (operands sh 0x7FC000003F00000040A00000BF800000#128 0x000000003F8000000000000000000000#128
      0x3F800000000000003F8000003F800000#128 0) sh := fun sh h => float_ready sh h _ _ _

/-- NaN on either side and on both, an ordered pair, the two zeros, an equal pair. -/
theorem witness_FloatMinMaxCases :
    fval binary32 0x7FC00000#32 = .nan ∧ fval binary32 0x3F800000#32 ≠ .nan ∧
      extOf binary32 (fval binary32 0xFF800000#32) < extOf binary32 (fval binary32 0x3F800000#32) ∧
      extOf binary32 (fval binary32 0x3F800000#32) ≠ 0 ∧
      extOf binary32 (fval binary32 0x80000000#32) = 0 ∧ extOf binary32 (fval binary32 0x00000000#32) = 0 := by
  have h1 : fval binary32 0xFF800000#32 = .inf true := by decide +kernel
  have h2 : fval binary32 0x80000000#32 = .fin true 0 := by decide +kernel
  have h3 : fval binary32 0x00000000#32 = .fin false 0 := by decide +kernel
  refine ⟨by decide +kernel, by decide +kernel, ?_, ?_, ?_, ?_⟩
  · rw [h1, fval_one32]; exact WithBot.bot_lt_coe _
  · rw [fval_one32]; simp only [extOf, rat_one32]; decide
  · rw [h2]; simp only [extOf, ratOf, signedMag]; simp
  · rw [h3]; simp only [extOf, ratOf, signedMag]; simp

/-- Lanes of every class, among them the greatest power of two, whose reciprocal is subnormal, and the smallest
subnormal, whose reciprocal overflows. -/
theorem witness_RcpaConforms :
    ReadyA (operands .f32x4 0x000000017F0000008000000000000000#128 0 0 0) .f32x4 ∧
      ReadyA (operands .f32x4 0x7FC00001FF800000BF80000040400000#128 0 0 0) .f32x4 ∧
      ReadyA (operands .f64x2 0x00000000000000017FE0000000000000#128 0 0 0) .f64x2 :=
  ⟨(float_ready _ (by decide) _ _ _).1, (float_ready _ (by decide) _ _ _).1, (float_ready _ (by decide) _ _ _).1⟩

theorem witness_RsqaConforms :
    ReadyA (operands .f32x4 0x7F800000BF8000008000000040800000#128 0 0 0) .f32x4 ∧
      ReadyA (operands .f64x2 0x00000000000000017FEFFFFFFFFFFFFF#128 0 0 0) .f64x2 :=
  ⟨(float_ready _ (by decide) _ _ _).1, (float_ready _ (by decide) _ _ _).1⟩

/-- 1.0 - 2^-12 for the reciprocal of 1.0, at the bound, and 1.0 for its reciprocal square root. -/
theorem witness_ConformingApproximationsAreKept :
    RcpConforms binary32 0x3F800000#32 0x3F7FF000#32 ∧ RsqrtConforms binary32 0x3F800000#32 0x3F800000#32 := by
  have hr : fval binary32 0x3F7FF000#32 = .fin false (4095 * 2 ^ 137) := by decide +kernel
  have hv : ratOf binary32 (.fin false (4095 * 2 ^ 137)) = 4095 / 4096 := by
    norm_num [ratOf, signedMag, unitExp, binary32]
  constructor
  · refine ⟨by simp [fval_one32], by simp [fval_one32], by simp [fval_one32], ?_⟩
    intro s m hm _
    rw [fval_one32] at hm
    obtain ⟨rfl, rfl⟩ := FloatVal.fin.inj hm
    refine ⟨by simp [hr], by decide, .inl ⟨⟨_, _, hr⟩, ?_⟩⟩
    rw [fval_one32, hr, hv, rat_one32]; norm_num
  · refine ⟨by simp [fval_one32], by simp [fval_one32], by simp [fval_one32], by simp [fval_one32],
      by simp [fval_one32], ?_⟩
    intro m _ _
    refine ⟨2 ^ 149, fval_one32, by norm_num, ?_⟩
    rw [fval_one32, rat_one32]; norm_num

theorem witness_BitwiseBits (sh : Shape) : ReadyAB (operands sh halfOnes halfOnes halfOnes 0) sh :=
  ⟨(operands_halfOnes sh 0).1, (operands_halfOnes sh 0).2.1⟩

theorem witness_BitwiseMaskClosure :
    ReadyAB (operands .m64x2 halfOnes (~~~halfOnes) 0 0) .m64x2 ∧ ReadyAB (operands .m32x4 halfOnes 0 0 0) .m32x4 ∧
      ReadyAB (operands .m16x8 halfOnes 0xFFFF#128 0 0) .m16x8 ∧ ReadyAB (operands .m8x16 halfOnes 0xFF00#128 0 0) .m8x16 :=
  ⟨⟨holds_of rfl (by rfl), holds_of rfl (by rfl)⟩, ⟨holds_of rfl (by rfl), holds_of rfl (by rfl)⟩,
    ⟨holds_of rfl (by rfl), holds_of rfl (by rfl)⟩, ⟨holds_of rfl (by rfl), holds_of rfl (by rfl)⟩⟩

/-- A pair of values, and an error: port B carries NONE. -/
theorem witness_CommutativeOperations :
    Instr.opc .xorI32x4 ∈ [Opc.add, .mul, .and, .or, .xor] ∧
      (∃ t, exec .xorI32x4 (operands .i32x4 3 5 0 0) = .next t) ∧
      (∃ t, exec .xorI32x4 (operands .i32x4 5 3 0 0) = .next t) ∧
      ∃ t, exec .xorI32x4 (issuing 0#32 ⟨0x9#4, 3#128⟩ ⟨0x0#4, 5#128⟩ unread 0#128) = .next t :=
  ⟨by decide, ⟨_, rfl⟩, ⟨_, rfl⟩, ⟨_, rfl⟩⟩

theorem witness_IntegerCompareMasks : ∀ sh ∈ [Shape.i32x4, .i16x8, .i8x16],
    ReadyAB (operands sh 0x000000010000000780000000FFFFFFFF#128 0xFFFFFFFF000000077FFFFFFF00000001#128 0 0) sh := by
  intro sh h
  have hn : isNumeric sh = true := by revert sh; decide
  exact ⟨(operands_numeric _ hn _ _ _ _).1, (operands_numeric _ hn _ _ _ _).2.1⟩

/-- An ordered pair, a NaN, the two zeros, two infinities. -/
theorem witness_FloatCompareMasks : ∀ sh ∈ [Shape.f64x2, .f32x4],
    ReadyAB (operands sh 0xFF800000800000007FC000003F800000#128 0xFF800000000000003F80000040000000#128 0 0) sh :=
  fun sh h => ⟨(float_ready sh h _ _ _).1, (float_ready sh h _ _ _).2.1⟩

/-- The greatest index of each lane count in every byte. -/
theorem witness_SwizzleLanes (sh : Shape) :
    ReadyA (operands sh halfOnes halfOnes halfOnes (lanesIndex sh fun _ => shapeLanes sh - 1)) sh ∧
      IndicesBelow (operands sh halfOnes halfOnes halfOnes (lanesIndex sh fun _ => shapeLanes sh - 1)) sh
        (shapeLanes sh) := by
  refine ⟨(operands_halfOnes sh _).1, (rangeFault_eq_false_iff _ _ _).1 ?_⟩
  cases sh <;> decide +kernel

theorem witness_ShuffleLanes (sh : Shape) :
    ReadyAB (operands sh halfOnes halfOnes halfOnes (lanesIndex sh fun _ => 2 * shapeLanes sh - 1)) sh ∧
      IndicesBelow (operands sh halfOnes halfOnes halfOnes (lanesIndex sh fun _ => 2 * shapeLanes sh - 1)) sh
        (2 * shapeLanes sh) := by
  refine ⟨⟨(operands_halfOnes sh _).1, (operands_halfOnes sh _).2.1⟩, (rangeFault_eq_false_iff _ _ _).1 ?_⟩
  cases sh <;> decide +kernel

/-- The four index words, BCAST with its last lane. -/
theorem witness_PseudoOperationsExpand :
    ReadyA (operands .i32x4 1 2 3 (pseudoMov .i32x4).idx) .i32x4 ∧
      (ReadyA (operands .i32x4 1 2 3 (pseudoBcast .i32x4 3).idx) .i32x4 ∧ 3 < shapeLanes .i32x4) ∧
      ReadyA (operands .m8x16 halfOnes 0 0 (pseudoRev .m8x16).idx) .m8x16 ∧
      ReadyAB (operands .f64x2 1 2 3 (pseudoZiplo .f64x2).idx) .f64x2 :=
  have h := fun sh hn i => (operands_numeric sh hn 1 2 3 i)
  ⟨(h _ rfl _).1, ⟨(h _ rfl _).1, by decide⟩, holds_of rfl (by rfl), (h _ rfl _).1, (h _ rfl _).2.1⟩

/-- Argument lists with one bad index: the least bad one, a negative one, one above 255, and none at all. -/
theorem witness_BadIndexArgumentRaisesRangeError : ∀ x ∈ [IndexArg.int 4, .int (-1), .int 256, .notInteger],
    [x, .int 0, .int 0, .int 0].length = shapeLanes .i32x4 ∧
      ReadyA (operands .i32x4 1 2 3 (encodeIndices [x, .int 0, .int 0, .int 0])) .i32x4 ∧
      ∀ n : Int, x = .int n → ¬ (0 ≤ n ∧ n < shapeLanes .i32x4) := by
  intro x hx
  refine ⟨rfl, (operands_numeric _ rfl _ _ _ _).1, ?_⟩
  intro n hn; subst hn
  simp at hx
  rcases hx with rfl | rfl | rfl <;> decide

theorem witness_BadIndexArgumentRaisesRangeError_shuffle :
    [IndexArg.int 0, .int 0, .int 0, .int 8].length = shapeLanes .i32x4 ∧
      ReadyAB (operands .i32x4 1 2 3 (encodeIndices [.int 0, .int 0, .int 0, .int 8])) .i32x4 ∧
      ∃ x ∈ [IndexArg.int 0, .int 0, .int 0, .int 8], ∀ n : Int, x = .int n → ¬ (0 ≤ n ∧ n < 2 * shapeLanes .i32x4) :=
  ⟨rfl, ⟨(operands_numeric _ rfl _ _ _ _).1, (operands_numeric _ rfl _ _ _ _).2.1⟩, .int 8, by simp,
    fun n hn => by cases hn; decide⟩

/-- A mask of every geometry with full and clear lanes. -/
theorem witness_SelectLanes (sh : Shape) :
    HoldsMask ⟨maskOf (Shape.tag sh), halfOnes⟩ sh ∧ Holds ⟨Shape.tag sh, halfOnes⟩ sh := by
  refine ⟨⟨rfl, proper_of ?_⟩, holds_halfOnes sh⟩
  cases sh <;> rfl

/-- A bitmask of another shape than the operands', and a mask. -/
theorem witness_BitSelectBits :
    Proper ⟨0xA#4, 0x1234#128⟩ ∧ Proper ⟨0xF#4, 0x00FF00FF00FF00FF#128⟩ ∧ ∀ sh ∈ [Shape.f64x2, .f32x4, .i32x4, .i16x8,
      .i8x16], Holds (operands sh 0 7 9 0).ports.b sh ∧ Holds (operands sh 0 7 9 0).ports.c sh := by
  refine ⟨proper_of (by rfl), proper_of (by rfl), fun sh h => ?_⟩
  have hn : isNumeric sh = true := by revert sh; decide
  exact (operands_numeric sh hn _ _ _ _).2

theorem numeric_ready : ∀ sh ∈ [Shape.f64x2, .f32x4, .i32x4, .i16x8, .i8x16], ∀ d : Data,
    ReadyA (operands sh d 0 0 0) sh :=
  fun sh h d => (operands_numeric sh (by revert sh; decide) d 0 0 0).1

theorem witness_IdentityConversionKeepsEveryBit :
    ReadyA (operands .f32x4 0xFFC0000000000001800000007FC00001#128 0 0 0) .f32x4 ∧
      ReadyA (operands .f64x2 0x7FF0000000000001FFF8000000000001#128 0 0 0) .f64x2 ∧
      ReadyA (operands .i8x16 0x80#128 0 0 0) .i8x16 :=
  ⟨numeric_ready _ (by decide) _, numeric_ready _ (by decide) _, numeric_ready _ (by decide) _⟩

theorem witness_BitcastKeepsData : ∀ sh ∈ [Shape.f64x2, .f32x4, .i32x4, .i16x8, .i8x16],
    ReadyA (operands sh 0x7F8000007FC00001800000003F800000#128 0 0 0) sh := fun sh h => numeric_ready sh h _

theorem witness_BitcastRoundTrip :
    conversionOf .bitcast .i32x4 .f32x4 = some .bitcastI32x4F32x4 ∧
      conversionOf .bitcast .f32x4 .i32x4 = some .bitcastF32x4I32x4 ∧
      ReadyA (operands .f32x4 0xFF80000000000001800000007FC00001#128 0 0 0) .f32x4 :=
  ⟨rfl, rfl, numeric_ready _ (by decide) _⟩

theorem witness_IntegerToIntegerConversion : ∀ sh ∈ [Shape.i32x4, .i16x8, .i8x16],
    ReadyA (operands sh 0x0000007F00000080FFFFFFFF12345678#128 0 0 0) sh := fun sh h =>
  numeric_ready sh (List.Mem.tail _ (List.Mem.tail _ h)) _

/-- 0, a value below the exact bound, the bound 2^24 and one above it. -/
theorem witness_IntegerToFloatConversion :
    ReadyA (operands .i32x4 0x0100000101000000FFFFFFFF00000000#128 0 0 0) .i32x4 ∧
      (laneA (operands .i32x4 0x0100000101000000FFFFFFFF00000000#128 0 0 0) .i32x4 0).toInt = 0 ∧
      |(laneA (operands .i32x4 0x0100000101000000FFFFFFFF00000000#128 0 0 0) .i32x4 2).toInt| ≤
        2 ^ (binary32.fracBits + 1) ∧
      (laneA (operands .i32x4 0x0100000101000000FFFFFFFF00000000#128 0 0 0) .i32x4 3).toInt = 16777217 ∧
      ReadyA (operands .i16x8 0x8000#128 0 0 0) .i16x8 ∧ ReadyA (operands .i8x16 0x80#128 0 0 0) .i8x16 :=
  ⟨numeric_ready _ (by decide) _, by decide +kernel, by decide +kernel, by decide +kernel,
    numeric_ready _ (by decide) _, numeric_ready _ (by decide) _⟩

/-- A NaN, both infinities and a finite lane beyond the range; and finite lanes of binary64. -/
theorem witness_FloatToIntegerConversion :
    ReadyA (operands .f32x4 0xCF32D05E7FC000007F800000FF800000#128 0 0 0) .f32x4 ∧
      fval binary32 (laneA (operands .f32x4 0xCF32D05E7FC000007F800000FF800000#128 0 0 0) .f32x4 2) = .nan ∧
      fval binary32 (laneA (operands .f32x4 0xCF32D05E7FC000007F800000FF800000#128 0 0 0) .f32x4 1) = .inf false ∧
      fval binary32 (laneA (operands .f32x4 0xCF32D05E7FC000007F800000FF800000#128 0 0 0) .f32x4 0) = .inf true ∧
      IsFinite binary32 (laneA (operands .f32x4 0xCF32D05E7FC000007F800000FF800000#128 0 0 0) .f32x4 3) ∧
      ReadyA (operands .f64x2 0xC202A05F2000000040F1170800000000#128 0 0 0) .f64x2 :=
  ⟨numeric_ready _ (by decide) _, by decide +kernel, by decide +kernel, by decide +kernel,
    ⟨true, 0xB2D05E * 2 ^ 157, by decide +kernel⟩, numeric_ready _ (by decide) _⟩

/-- A NaN, an infinity, a zero and the smallest subnormal; and a binary64 value that overflows binary32. -/
theorem witness_FloatToFloatConversion :
    ReadyA (operands .f32x4 0x0000000180000000FF8000007FC00001#128 0 0 0) .f32x4 ∧
      fval binary32 0x7FC00001#32 = .nan ∧ fval binary32 0xFF800000#32 = .inf true ∧
      fval binary32 0x80000000#32 = .fin true 0 ∧ fval binary32 0x00000001#32 = .fin false 1 ∧
      ReadyA (operands .f64x2 0x7FF80000000000017E37E43C8800759C#128 0 0 0) .f64x2 :=
  ⟨numeric_ready _ (by decide) _, by decide +kernel, by decide +kernel, by decide +kernel, by decide +kernel,
    numeric_ready _ (by decide) _⟩

theorem witness_CheckPassesOnlyItsShape :
    (∀ sh, ReadyA (operands sh halfOnes halfOnes halfOnes 0) sh) ∧
      ¬ ReadyA (operands .i32x4 0 0 0 0) .f32x4 ∧ ¬ ReadyA (operands .m32x4 0xFFFF#128 0 0 0) .m32x4 :=
  ⟨fun sh => (operands_halfOnes sh 0).1, fun h => absurd h.1 (by decide),
    fun h => not_proper_of (v := ⟨0xD#4, 0xFFFF#128⟩) (by rfl) h.2⟩

/-- An int32 buffer of five, for I32x4 and for F32x4: a whole transfer and a prefix of 3 that end at the buffer's end,
and each one element beyond it. -/
theorem witness_HostLoadsAndStoresCheckBounds :
    elementKind .f32x4 ≠ some (Buffer.int32 [0#32, 0#32, 0#32, 0#32, 0#32]).kind ∧
      elementKind .m32x4 ≠ some (Buffer.int32 [0#32, 0#32, 0#32, 0#32, 0#32]).kind ∧
      elementKind .i32x4 = some (Buffer.int32 [0#32, 0#32, 0#32, 0#32, 0#32]).kind ∧
      (Buffer.int32 [0#32, 0#32, 0#32, 0#32, 0#32]).elems .i32x4 = some [0#32, 0#32, 0#32, 0#32, 0#32] ∧
      (1 ≤ 3 ∧ 3 ≤ 3 ∧ 3 < shapeLanes .i32x4) ∧
      1 + shapeLanes .i32x4 ≤ [0#32, 0#32, 0#32, 0#32, 0#32].length ∧
      [0#32, 0#32, 0#32, 0#32, 0#32].length < 2 + shapeLanes .i32x4 ∧
      2 + 3 ≤ [0#32, 0#32, 0#32, 0#32, 0#32].length ∧ [0#32, 0#32, 0#32, 0#32, 0#32].length < 3 + 3 ∧
      (∀ i : Nat, IndexArg.int (-1) ≠ .int i) ∧ (⟨0x9#4, 9#128⟩ : Value).tag = Shape.tag .i32x4 :=
  ⟨by decide, by decide, rfl, rfl, by decide, by decide, by decide, by decide, by decide,
    fun i h => by injection h; omega, rfl⟩

theorem witness_InstancesShareNoState :
    [State.reset, notIssue []][1]? = some (notIssue []) ∧ (∃ t, step (notIssue []) = .next t) ∧ 0 ≠ 1 :=
  ⟨rfl, ⟨_, rfl⟩, by decide⟩


end Sys2Proof.Tests
end

section
/-! PROOFS. Rounding to nearest, ties to even (00_scope.md R9, R10), and the canonical NaNs (R11).

Magnitude patterns are read without an upper end: `patternMag p` is the number of units the pattern `p` would stand for
if the exponent field could grow for ever. It is strictly increasing, so the nearest value among all patterns is a
question about naturals, and overflow is the question on which side of `infPattern` the nearest pattern lies. -/
namespace Sys2Proof.Machine

/-! The magnitude of a pattern. -/

/-- The units of the magnitude pattern `p`, the infinity and what follows it read as further binades. -/
def patternMag (fmt : FloatFormat) (p : Nat) : Nat := finMag fmt (p / 2 ^ fmt.fracBits) (p % 2 ^ fmt.fracBits)

@[simp] theorem patternMag_zero (fmt : FloatFormat) : patternMag fmt 0 = 0 := by simp [patternMag, finMag]

/-- The pattern `q * 2^fracBits + k` stands for `k` quanta of `2^q` units, the end `2^(fracBits + 1)` of the binade
included. -/
theorem patternMag_scaled (fmt : FloatFormat) (q k : Nat) (hk : k ≤ 2 * 2 ^ fmt.fracBits)
    (hq : q = 0 ∨ 2 ^ fmt.fracBits ≤ k) : patternMag fmt (q * 2 ^ fmt.fracBits + k) = k * 2 ^ q := by
  unfold patternMag
  have hF : 0 < 2 ^ fmt.fracBits := Nat.two_pow_pos _
  generalize hFdef : 2 ^ fmt.fracBits = F at *
  have hsplit : ∀ a b, b < F → finMag fmt ((a * F + b) / F) ((a * F + b) % F) = finMag fmt a b := by
    intro a b hb
    rw [Nat.mul_comm a F, Nat.mul_add_div hF, Nat.mul_add_mod, Nat.div_eq_of_lt hb, Nat.mod_eq_of_lt hb, Nat.add_zero]
  rcases Nat.lt_or_ge k F with hkF | hkF
  · obtain rfl : q = 0 := by omega
    simpa [finMag] using hsplit 0 k hkF
  · rcases Nat.lt_or_eq_of_le hk with hk2 | rfl
    · have hp : q * F + k = (q + 1) * F + (k - F) := by rw [Nat.add_mul]; omega
      rw [hp, hsplit _ _ (by omega)]
      simp only [finMag, Nat.add_eq_zero_iff, one_ne_zero, and_false, if_false, hFdef, Nat.add_sub_cancel]
      rw [Nat.add_sub_cancel' hkF]
    · have hp : q * F + 2 * F = (q + 1 + 1) * F + 0 := by ring
      rw [hp, hsplit _ _ hF]
      simp only [finMag, Nat.add_eq_zero_iff, one_ne_zero, and_false, if_false, hFdef, Nat.add_sub_cancel]
      ring

/-- Every pattern is a number of quanta of its binade. -/
theorem exists_scaled (fmt : FloatFormat) (p : Nat) : ∃ q k, p = q * 2 ^ fmt.fracBits + k ∧
    k < 2 * 2 ^ fmt.fracBits ∧ (q = 0 ∨ 2 ^ fmt.fracBits ≤ k) := by
  rcases Nat.lt_or_ge p (2 * 2 ^ fmt.fracBits) with h | h
  · exact ⟨0, p, by simp, h, .inl rfl⟩
  · have hdiv : 2 ≤ p / 2 ^ fmt.fracBits := (Nat.le_div_iff_mul_le (Nat.two_pow_pos _)).2 h
    have hmod := Nat.mod_lt p (Nat.two_pow_pos fmt.fracBits)
    refine ⟨p / 2 ^ fmt.fracBits - 1, p % 2 ^ fmt.fracBits + 2 ^ fmt.fracBits, ?_, by omega, .inr (by omega)⟩
    have hle := Nat.mul_le_mul_right (2 ^ fmt.fracBits) hdiv
    have hp := Nat.div_add_mod' p (2 ^ fmt.fracBits)
    rw [Nat.sub_mul]
    omega

theorem patternMag_strictMono (fmt : FloatFormat) : StrictMono (patternMag fmt) := by
  refine strictMono_nat_of_lt_succ fun p => ?_
  obtain ⟨q, k, rfl, hk, hq⟩ := exists_scaled fmt p
  rw [patternMag_scaled fmt q k hk.le hq, Nat.add_assoc, patternMag_scaled fmt q (k + 1) hk (by omega)]
  exact Nat.mul_lt_mul_of_pos_right k.lt_succ_self (Nat.two_pow_pos q)

/-- From `2^fracBits` quanta on, every value is a whole number of quanta. -/
theorem patternMag_multiple_or_lt (fmt : FloatFormat) (q p : Nat) :
    (∃ j, patternMag fmt p = j * 2 ^ q) ∨ (q ≠ 0 ∧ patternMag fmt p < 2 ^ fmt.fracBits * 2 ^ q) := by
  obtain ⟨r, k, rfl, hk, hr⟩ := exists_scaled fmt p
  rw [patternMag_scaled fmt r k hk.le hr]
  rcases Nat.lt_or_ge r q with hlt | hge
  · refine .inr ⟨by omega, ?_⟩
    calc k * 2 ^ r < 2 * 2 ^ fmt.fracBits * 2 ^ r := Nat.mul_lt_mul_of_pos_right hk (Nat.two_pow_pos r)
      _ = 2 ^ fmt.fracBits * 2 ^ (r + 1) := by ring
      _ ≤ 2 ^ fmt.fracBits * 2 ^ q := Nat.mul_le_mul_left _ (Nat.pow_le_pow_right (by decide) hlt)
  · refine .inl ⟨k * 2 ^ (r - q), ?_⟩
    rw [Nat.mul_assoc, ← pow_add, Nat.sub_add_cancel hge]

/-! Nearness. -/

/-- Scaling by a factor, a negative one too, keeps who is nearer. -/
theorem NearerOrEven.scale {p : Nat} {x y e : ℚ} (h : NearerOrEven p x y e) {c : ℚ} (hc : c ≠ 0) :
    NearerOrEven p (c * x) (c * y) (c * e) := by
  obtain ⟨hle, htie⟩ := h
  have habs : ∀ z, |c * z - c * e| = |c| * |z - e| := fun z => by rw [← mul_sub, abs_mul]
  have hpos : 0 < |c| := abs_pos.2 hc
  refine ⟨by rw [habs, habs]; exact mul_le_mul_of_nonneg_left hle hpos.le, fun heq hne => ?_⟩
  rw [habs, habs] at heq
  exact htie (mul_left_cancel₀ hpos.ne' heq) fun hxy => hne (by rw [hxy])

theorem NearerOrEven.of_lt {p : Nat} {x y z e : ℚ} (h : NearerOrEven p x z e) (hlt : |z - e| < |y - e|) :
    NearerOrEven p x y e :=
  ⟨h.1.trans hlt.le, fun heq => absurd heq (h.1.trans_lt hlt).ne⟩

/-- Of two values the greater one is at least as near from the midpoint on. -/
theorem abs_sub_le_abs_sub_iff_midpoint_le {a b e : ℚ} (hab : a < b) : |b - e| ≤ |a - e| ↔ (a + b) / 2 ≤ e := by
  rw [← sq_le_sq]
  constructor <;> intro h <;> nlinarith

theorem abs_sub_le_abs_sub_iff_le_midpoint {a b e : ℚ} (hab : a < b) : |a - e| ≤ |b - e| ↔ e ≤ (a + b) / 2 := by
  rw [← sq_le_sq]
  constructor <;> intro h <;> nlinarith

/-! The nearest natural. -/

theorem abs_nearestEven_sub_le (n d : Nat) (hd : 0 < d) : |(nearestEven n d : ℚ) - n / d| ≤ 1 / 2 := by
  obtain ⟨hlow, hhigh⟩ := nearestEven_error n d hd
  have hdq : (0 : ℚ) < d := by exact_mod_cast hd
  have hlow' : 2 * (n : ℚ) ≤ 2 * (nearestEven n d * d) + d := by exact_mod_cast hlow
  have hhigh' : 2 * ((nearestEven n d : ℚ) * d) ≤ 2 * n + d := by exact_mod_cast hhigh
  have hx : (n : ℚ) / d * d = n := div_mul_cancel₀ _ hdq.ne'
  rw [abs_le]
  constructor <;> nlinarith

/-- At a midpoint the even neighbour is taken. -/
theorem nearestEven_even_of_tie (n d : Nat) (hd : 0 < d) (h : |(nearestEven n d : ℚ) - n / d| = 1 / 2) :
    nearestEven n d % 2 = 0 := by
  have hdq : (d : ℚ) ≠ 0 := by exact_mod_cast hd.ne'
  have hmid : 2 * n + d = 2 * (nearestEven n d * d) ∨ 2 * n = 2 * (nearestEven n d * d) + d := by
    rcases eq_or_eq_neg_of_abs_eq h with h | h <;> field_simp at h
    · exact .inl (by exact_mod_cast (by linarith : 2 * (n : ℚ) + d = 2 * (nearestEven n d * d)))
    · exact .inr (by exact_mod_cast (by linarith : 2 * (n : ℚ) = 2 * (nearestEven n d * d) + d))
  have hdiv := Nat.div_add_mod' n d
  have hmod := Nat.mod_lt n hd
  unfold nearestEven at hmid ⊢
  split at hmid
  · rw [Nat.add_one_mul (n / d) d] at hmid
    rw [if_pos ‹_›]
    omega
  · rw [if_neg ‹_›]
    omega

/-- `nearestEven` is the nearest natural to the exact quotient, a tie going to the even one. -/
theorem nearestEven_nearest (n d : Nat) (hd : 0 < d) (j : Nat) :
    NearerOrEven (nearestEven n d) (nearestEven n d) j ((n : ℚ) / d) := by
  have hhalf := abs_nearestEven_sub_le n d hd
  rcases eq_or_ne j (nearestEven n d) with rfl | hne
  · exact ⟨le_rfl, fun _ h => absurd rfl h⟩
  have hgap : (1 : ℚ) ≤ |(j : ℚ) - nearestEven n d| := by
    exact_mod_cast Int.one_le_abs (sub_ne_zero.2 (Nat.cast_injective.ne hne : (j : ℤ) ≠ nearestEven n d))
  have htri := abs_sub_le (j : ℚ) (n / d) (nearestEven n d)
  rw [abs_sub_comm ((n : ℚ) / d)] at htri
  exact ⟨by linarith, fun heq _ => nearestEven_even_of_tie n d hd (by linarith)⟩

/-! The nearest pattern, without an upper end. -/

/-- The quantum of `n / d` units is `2^quantumExp` units. -/
def quantumExp (fmt : FloatFormat) (n d : Nat) : Nat := Nat.log2 (n / d) - fmt.fracBits

/-- The pattern `roundPattern` takes before it looks for overflow. -/
def unboundedPattern (fmt : FloatFormat) (n d : Nat) : Nat :=
  quantumExp fmt n d * 2 ^ fmt.fracBits + nearestEven n (d * 2 ^ quantumExp fmt n d)

theorem roundPattern_eq_min (fmt : FloatFormat) (n d : Nat) :
    roundPattern fmt n d = min (infPattern fmt) (unboundedPattern fmt n d) := rfl

/-- The exact magnitude is below `2^(fracBits + 1)` quanta. -/
theorem lt_quanta (fmt : FloatFormat) (n d : Nat) (hd : 0 < d) :
    n < 2 * 2 ^ fmt.fracBits * (d * 2 ^ quantumExp fmt n d) := by
  have hlog : n / d < 2 ^ (Nat.log2 (n / d) + 1) := Nat.lt_log2_self
  have hexp : Nat.log2 (n / d) + 1 ≤ 1 + fmt.fracBits + quantumExp fmt n d := by unfold quantumExp; omega
  calc n < 2 ^ (1 + fmt.fracBits + quantumExp fmt n d) * d :=
        (Nat.div_lt_iff_lt_mul hd).1 (hlog.trans_le (Nat.pow_le_pow_right (by decide) hexp))
    _ = 2 * 2 ^ fmt.fracBits * (d * 2 ^ quantumExp fmt n d) := by ring

/-- Above the subnormal range it is at least `2^fracBits` quanta. -/
theorem quanta_le (fmt : FloatFormat) (n d : Nat) (hd : 0 < d) (hq : quantumExp fmt n d ≠ 0) :
    2 ^ fmt.fracBits * (d * 2 ^ quantumExp fmt n d) ≤ n := by
  have hexp : fmt.fracBits + quantumExp fmt n d = Nat.log2 (n / d) := by unfold quantumExp at *; omega
  have hne : n / d ≠ 0 := by
    intro h
    simp [quantumExp, h] at hq
  calc 2 ^ fmt.fracBits * (d * 2 ^ quantumExp fmt n d) = 2 ^ (fmt.fracBits + quantumExp fmt n d) * d := by ring
    _ ≤ n := (Nat.le_div_iff_mul_le hd).1 (hexp ▸ Nat.log2_self_le hne)

theorem nearestEven_le (n d k : Nat) (hd : 0 < d) (h : n ≤ k * d) : nearestEven n d ≤ k := by
  by_contra hlt
  have hmul := Nat.mul_le_mul_right d (Nat.succ_le_of_lt (not_le.1 hlt))
  have herr := (nearestEven_error n d hd).2
  rw [Nat.succ_mul] at hmul
  omega

theorem le_nearestEven (n d k : Nat) (hd : 0 < d) (h : k * d ≤ n) : k ≤ nearestEven n d := by
  by_contra hlt
  have hmul := Nat.mul_le_mul_right d (Nat.succ_le_of_lt (not_le.1 hlt))
  have herr := (nearestEven_error n d hd).1
  rw [Nat.succ_mul] at hmul
  omega

theorem patternMag_unboundedPattern (fmt : FloatFormat) (n d : Nat) (hd : 0 < d) :
    patternMag fmt (unboundedPattern fmt n d) =
      nearestEven n (d * 2 ^ quantumExp fmt n d) * 2 ^ quantumExp fmt n d := by
  have hdq : 0 < d * 2 ^ quantumExp fmt n d := Nat.mul_pos hd (Nat.two_pow_pos _)
  refine patternMag_scaled fmt _ _ (nearestEven_le _ _ _ hdq (lt_quanta fmt n d hd).le) ?_
  rcases eq_or_ne (quantumExp fmt n d) 0 with hq | hq
  · exact .inl hq
  · exact .inr (le_nearestEven _ _ _ hdq (quanta_le fmt n d hd hq))

theorem unboundedPattern_mod_two (fmt : FloatFormat) (hf : 0 < fmt.fracBits) (n d : Nat) :
    unboundedPattern fmt n d % 2 = nearestEven n (d * 2 ^ quantumExp fmt n d) % 2 := by
  have heven : 2 ∣ quantumExp fmt n d * 2 ^ fmt.fracBits := (dvd_pow_self 2 hf.ne').mul_left _
  unfold unboundedPattern
  omega

/-- Among all whole numbers of quanta, the pattern taken is the nearest. -/
theorem unboundedPattern_nearest_multiple (fmt : FloatFormat) (hf : 0 < fmt.fracBits) (n d : Nat) (hd : 0 < d)
    (j : Nat) : NearerOrEven (unboundedPattern fmt n d) (patternMag fmt (unboundedPattern fmt n d))
      (j * 2 ^ quantumExp fmt n d : Nat) ((n : ℚ) / d) := by
  have hd' : (d : ℚ) ≠ 0 := by exact_mod_cast hd.ne'
  have h := (nearestEven_nearest n _ (Nat.mul_pos hd (Nat.two_pow_pos (quantumExp fmt n d))) j).scale
    (pow_ne_zero (quantumExp fmt n d) (two_ne_zero (α := ℚ)))
  unfold NearerOrEven at h ⊢
  rw [unboundedPattern_mod_two fmt hf, patternMag_unboundedPattern fmt n d hd]
  convert h using 5 <;> (push_cast; field_simp)

/-- Among the values of all patterns, the pattern taken is the nearest: those that are no whole number of quanta lie
below the first value of the binade, which is nearer. -/
theorem unboundedPattern_nearest (fmt : FloatFormat) (hf : 0 < fmt.fracBits) (n d : Nat) (hd : 0 < d) (p : Nat) :
    NearerOrEven (unboundedPattern fmt n d) (patternMag fmt (unboundedPattern fmt n d)) (patternMag fmt p)
      ((n : ℚ) / d) := by
  rcases patternMag_multiple_or_lt fmt (quantumExp fmt n d) p with ⟨j, hj⟩ | ⟨hq, hlt⟩
  · rw [hj]
    exact unboundedPattern_nearest_multiple fmt hf n d hd j
  · refine (unboundedPattern_nearest_multiple fmt hf n d hd (2 ^ fmt.fracBits)).of_lt ?_
    have hdq : (0 : ℚ) < d := by exact_mod_cast hd
    have hstart : ((2 ^ fmt.fracBits * 2 ^ quantumExp fmt n d : Nat) : ℚ) ≤ n / d := by
      rw [le_div_iff₀ hdq]
      have := quanta_le fmt n d hd hq
      rw [← Nat.mul_assoc, Nat.mul_right_comm] at this
      exact_mod_cast this
    have hlt' : (patternMag fmt p : ℚ) < (2 ^ fmt.fracBits * 2 ^ quantumExp fmt n d : Nat) := by exact_mod_cast hlt
    rw [abs_of_nonpos (by linarith), abs_of_nonpos (by linarith)]
    linarith

/-! Overflow. -/

/-- The units at the overflow bound: half way between the largest finite pattern and the infinity read as a value. -/
def overflowUnits (fmt : FloatFormat) : ℚ :=
  ((patternMag fmt (infPattern fmt - 1) : ℚ) + patternMag fmt (infPattern fmt)) / 2

theorem overflowUnits_eq (fmt : FloatFormat) (he : 2 ≤ fmt.expBits) :
    overflowUnits fmt = overflowBound fmt * 2 ^ unitExp fmt := by
  obtain ⟨m, hm⟩ : ∃ m, 2 ^ (fmt.expBits - 1) = m + 2 :=
    ⟨2 ^ (fmt.expBits - 1) - 2, (Nat.sub_add_cancel (Nat.le_self_pow (by omega) 2)).symm⟩
  have hexp : 2 ^ fmt.expBits = 2 * m + 4 := by
    rw [← Nat.sub_add_cancel (show 1 ≤ fmt.expBits by omega), pow_succ, hm]; ring
  have hF : 0 < 2 ^ fmt.fracBits := Nat.two_pow_pos _
  have hinf : infPattern fmt = (2 * m + 1) * 2 ^ fmt.fracBits + 2 * 2 ^ fmt.fracBits := by
    rw [infPattern, hexp, ← Nat.add_mul]; rfl
  have hlast : infPattern fmt - 1 = (2 * m + 1) * 2 ^ fmt.fracBits + (2 * 2 ^ fmt.fracBits - 1) := by omega
  have hunit : unitExp fmt = m + fmt.fracBits := by rw [unitExp, hm, Nat.add_sub_cancel]
  have hmax : maxExp fmt = m + 1 := by rw [maxExp, hm]; rfl
  have hone : 1 ≤ 2 * 2 ^ fmt.fracBits := by omega
  rw [overflowUnits, hlast, hinf, patternMag_scaled fmt _ _ le_rfl (.inr (by omega)),
    patternMag_scaled fmt _ _ (by omega) (.inr (by omega)), overflowBound, maxFinite, hunit, hmax]
  push_cast [hone]
  field_simp
  ring

theorem infPattern_mod_two (fmt : FloatFormat) (hf : 0 < fmt.fracBits) : infPattern fmt % 2 = 0 :=
  Nat.mod_eq_zero_of_dvd ((dvd_pow_self 2 hf.ne').mul_left _)

theorem infPattern_pos (fmt : FloatFormat) (he : 2 ≤ fmt.expBits) : 0 < infPattern fmt :=
  Nat.mul_pos (Nat.sub_pos_of_lt (Nat.one_lt_two_pow (by omega))) (Nat.two_pow_pos _)

/-- The nearest pattern is beyond the finite ones exactly from the overflow bound on; at the bound itself the largest
finite pattern is odd and loses the tie. -/
theorem infPattern_le_unboundedPattern_iff (fmt : FloatFormat) (he : 2 ≤ fmt.expBits) (hf : 0 < fmt.fracBits)
    (n d : Nat) (hd : 0 < d) : infPattern fmt ≤ unboundedPattern fmt n d ↔ overflowUnits fmt ≤ (n : ℚ) / d := by
  have hpos := infPattern_pos fmt he
  have hmono := patternMag_strictMono fmt
  unfold overflowUnits
  constructor
  · intro hle
    have hmag : (patternMag fmt (infPattern fmt) : ℚ) ≤ patternMag fmt (unboundedPattern fmt n d) := by
      exact_mod_cast hmono.monotone hle
    have hlast : (patternMag fmt (infPattern fmt - 1) : ℚ) < patternMag fmt (unboundedPattern fmt n d) := by
      exact_mod_cast hmono (by omega)
    have hnear := (unboundedPattern_nearest fmt hf n d hd (infPattern fmt - 1)).1
    rw [abs_sub_le_abs_sub_iff_midpoint_le hlast] at hnear
    linarith
  · intro hbound
    by_contra hlt
    have hmag : (patternMag fmt (unboundedPattern fmt n d) : ℚ) ≤ patternMag fmt (infPattern fmt - 1) := by
      exact_mod_cast hmono.monotone (by omega)
    have hinf : (patternMag fmt (unboundedPattern fmt n d) : ℚ) < patternMag fmt (infPattern fmt) := by
      exact_mod_cast hmono (by omega)
    obtain ⟨hnear, htie⟩ := unboundedPattern_nearest fmt hf n d hd (infPattern fmt)
    have hmid := (abs_sub_le_abs_sub_iff_le_midpoint hinf).1 hnear
    have hlast : unboundedPattern fmt n d = infPattern fmt - 1 :=
      hmono.injective (by exact_mod_cast le_antisymm hmag (by linarith))
    have heven := htie (hnear.antisymm ((abs_sub_le_abs_sub_iff_midpoint_le hinf).2 (by linarith))) hinf.ne
    have hinfEven := infPattern_mod_two fmt hf
    omega

/-! Signs and patterns. -/

/-- A format whose fields and sign bit fill the width `w`, as the formats of 00_scope.md R9 do. -/
structure FillsWidth (fmt : FloatFormat) (w : Nat) : Prop where
  width : w = fmt.expBits + fmt.fracBits + 1
  two_le_expBits : 2 ≤ fmt.expBits
  fracBits_pos : 0 < fmt.fracBits

theorem floatFormats_fillsWidth {f : FloatFormat × Nat} (h : f ∈ floatFormats) : FillsWidth f.1 f.2 := by
  rcases List.mem_pair.1 h with rfl | rfl <;> exact ⟨rfl, by decide, by decide⟩

theorem infPattern_lt {fmt : FloatFormat} : infPattern fmt < 2 ^ (fmt.expBits + fmt.fracBits) := by
  rw [pow_add]
  exact Nat.mul_lt_mul_of_pos_right (Nat.sub_one_lt (Nat.two_pow_pos _).ne') (Nat.two_pow_pos _)

theorem withSign_toNat {fmt : FloatFormat} {w : Nat} (hw : FillsWidth fmt w) (neg : Bool) {p : Nat}
    (hp : p ≤ infPattern fmt) :
    (withSign fmt w neg p).toNat = (if neg then 2 ^ (fmt.expBits + fmt.fracBits) else 0) + p := by
  have hlt := hp.trans_lt infPattern_lt
  rw [withSign, BitVec.toNat_ofNat, hw.width, pow_succ]
  apply Nat.mod_eq_of_lt
  split <;> omega

theorem withSign_msb {fmt : FloatFormat} {w : Nat} (hw : FillsWidth fmt w) (neg : Bool) {p : Nat}
    (hp : p ≤ infPattern fmt) : (withSign fmt w neg p).msb = neg := by
  have hlt := hp.trans_lt (infPattern_lt (fmt := fmt))
  rw [BitVec.msb_eq_decide, withSign_toNat hw neg hp, hw.width, Nat.add_sub_cancel]
  cases neg <;> simp [hlt]

/-- The sign bit does not touch the parity of a pattern. -/
theorem withSign_toNat_mod_two {fmt : FloatFormat} {w : Nat} (hw : FillsWidth fmt w) (neg : Bool) {p : Nat}
    (hp : p ≤ infPattern fmt) : (withSign fmt w neg p).toNat % 2 = p % 2 := by
  have heven : 2 ∣ 2 ^ (fmt.expBits + fmt.fracBits) := dvd_pow_self 2 (by have := hw.fracBits_pos; omega)
  rw [withSign_toNat hw neg hp]
  split <;> omega

/-- A pattern below the infinity stands for the finite value of its magnitude. -/
theorem fval_withSign_of_lt {fmt : FloatFormat} {w : Nat} (hw : FillsWidth fmt w) (neg : Bool) {p : Nat}
    (hp : p < infPattern fmt) : fval fmt (withSign fmt w neg p) = .fin neg (patternMag fmt p) := by
  have he := hw.two_le_expBits
  rw [fval_withSign fmt w hw.width (by omega) neg p hp.le, if_neg hp.ne]
  rfl

/-- The units of a finite pattern are those of a magnitude pattern. -/
theorem exists_patternMag_of_fval_fin {fmt : FloatFormat} {w : Nat} {y : BitVec w} {s : Bool} {m : Nat}
    (h : fval fmt y = .fin s m) : ∃ p, m = patternMag fmt p := by
  simp only [fval] at h
  split at h
  · split at h <;> simp at h
  · injection h with _ hm
    refine ⟨y.toNat / 2 ^ fmt.fracBits % 2 ^ fmt.expBits * 2 ^ fmt.fracBits + y.toNat % 2 ^ fmt.fracBits, ?_⟩
    have hfrac := Nat.mod_lt y.toNat (Nat.two_pow_pos fmt.fracBits)
    rw [← hm, patternMag, Nat.mul_comm _ (2 ^ fmt.fracBits), Nat.mul_add_div (Nat.two_pow_pos _), Nat.mul_add_mod,
      Nat.div_eq_of_lt hfrac, Nat.mod_eq_of_lt hfrac, Nat.add_zero]

/-- One unit with a sign, as a rational number. -/
def signedUnit (fmt : FloatFormat) (neg : Bool) : ℚ := (if neg then -1 else 1) / 2 ^ unitExp fmt

theorem signedUnit_ne_zero (fmt : FloatFormat) (neg : Bool) : signedUnit fmt neg ≠ 0 := by
  cases neg <;> simp [signedUnit]

theorem ratOf_fin (fmt : FloatFormat) (s : Bool) (m : Nat) : ratOf fmt (.fin s m) = signedUnit fmt s * m := by
  cases s <;> simp [ratOf, signedMag, signedUnit, div_eq_inv_mul]

theorem signedUnit_not (fmt : FloatFormat) (neg : Bool) : signedUnit fmt (!neg) = -signedUnit fmt neg := by
  cases neg <;> simp [signedUnit, neg_div]

theorem abs_signedUnit_mul (fmt : FloatFormat) (neg : Bool) {x : ℚ} (hx : 0 ≤ x) :
    |signedUnit fmt neg * x| = x / 2 ^ unitExp fmt := by
  rw [abs_mul, abs_of_nonneg hx]
  cases neg <;> simp [signedUnit, div_eq_inv_mul]

theorem signedUnit_mul_neg_iff (fmt : FloatFormat) (neg : Bool) {x : ℚ} (hx : 0 < x) :
    signedUnit fmt neg * x < 0 ↔ neg = true := by
  cases neg
  · simp [signedUnit, hx.le]
  · simpa [signedUnit, neg_div] using hx

/-! The rounding of a magnitude with a sign. -/

/-- A value of the other sign is no nearer to a positive one than zero is. -/
theorem NearerOrEven.neg_of_zero {p : Nat} {x y e : ℚ} (h : NearerOrEven p x 0 e) (hy : 0 ≤ y) (he : 0 < e) :
    NearerOrEven p x (-y) e := by
  rcases hy.eq_or_lt with rfl | hy
  · simpa using h
  · refine h.of_lt ?_
    rw [abs_of_neg (by linarith), abs_of_neg (by linarith)]
    linarith

/-- The nearest magnitude with the sign of the exact value is the nearest finite value of either sign. -/
theorem unboundedPattern_nearest_ratOf (fmt : FloatFormat) (hf : 0 < fmt.fracBits) (neg : Bool) (n d : Nat)
    (hn : 0 < n) (hd : 0 < d) (s : Bool) (p : Nat) :
    NearerOrEven (unboundedPattern fmt n d) (ratOf fmt (.fin neg (patternMag fmt (unboundedPattern fmt n d))))
      (ratOf fmt (.fin s (patternMag fmt p))) (signedUnit fmt neg * ((n : ℚ) / d)) := by
  have hnear := unboundedPattern_nearest fmt hf n d hd
  rw [ratOf_fin, ratOf_fin]
  rcases Bool.eq_or_eq_not s neg with rfl | rfl
  · exact (hnear p).scale (signedUnit_ne_zero fmt s)
  · have hzero := hnear 0
    rw [patternMag_zero, Nat.cast_zero] at hzero
    rw [signedUnit_not, neg_mul_comm]
    exact (hzero.neg_of_zero (Nat.cast_nonneg _) (by positivity)).scale (signedUnit_ne_zero fmt neg)

/-- `roundUnits` rounds to nearest, ties to even, in every format that fills its width (00_scope.md R10). -/
theorem roundUnits_roundedTo {fmt : FloatFormat} {w : Nat} (hw : FillsWidth fmt w) (neg : Bool) (n d : Nat)
    (hn : 0 < n) (hd : 0 < d) :
    RoundedTo fmt (signedUnit fmt neg * ((n : ℚ) / d)) (roundUnits fmt w neg n d) := by
  have hx : (0 : ℚ) < n / d := by positivity
  have hover := infPattern_le_unboundedPattern_iff fmt hw.two_le_expBits hw.fracBits_pos n d hd
  have hsign := signedUnit_mul_neg_iff fmt neg hx
  have hmsb := withSign_msb hw neg (roundPattern_le fmt n d)
  rw [overflowUnits_eq fmt hw.two_le_expBits, ← le_div_iff₀ (by positivity), ← abs_signedUnit_mul fmt neg hx.le]
    at hover
  unfold roundUnits
  refine ⟨fun hlt => ?_, fun hge => ?_, fun h => by rw [hmsb, hsign.1 h], fun h => ?_⟩
  · have hp : unboundedPattern fmt n d < infPattern fmt := not_le.1 (mt hover.1 hlt.not_ge)
    have hfin := fval_withSign_of_lt hw neg hp
    rw [roundPattern_eq_min, min_eq_right hp.le]
    refine ⟨⟨_, _, hfin⟩, ?_⟩
    rintro y ⟨s, m, hy⟩
    obtain ⟨p, rfl⟩ := exists_patternMag_of_fval_fin hy
    rw [hfin, hy, NearerOrEven, withSign_toNat_mod_two hw neg hp.le]
    exact unboundedPattern_nearest_ratOf fmt hw.fracBits_pos neg n d hn hd s p
  · rw [roundPattern_eq_min, min_eq_left (hover.2 hge), infinity]
    rw [show decide (signedUnit fmt neg * ((n : ℚ) / d) < 0) = neg by simp [hsign]]
  · rw [hmsb, ← Bool.not_eq_true, ← hsign]
    exact h.not_gt

/-- Settles O29: the statement's exact value is `n / d` signed units of the format. -/
theorem roundUnitsIsRoundTiesToEven : Obligations.RoundUnitsIsRoundTiesToEven := by
  intro f hf neg n d hn hd
  have h := roundUnits_roundedTo (floatFormats_fillsWidth hf) neg n d hn hd
  rwa [signedUnit, div_mul_eq_mul_div] at h

/-! The canonical NaN. -/

/-- Settles O28: the patterns and their decoding, both formats being closed terms. -/
theorem canonicalNaNPatterns : Obligations.CanonicalNaNPatterns :=
  ⟨by decide, by decide, by decide, by decide⟩

end Sys2Proof.Machine
end

section
/-! PROOFS. The result register (10_state.md R23, R24, R29, R30): what a step leaves in it.

An issue writes one of two things, an error or a value, and which one is a function of the input ports alone. So each
operand form is described by its answer, an `Except OpError Value` whose value is proper and which states with the same
ports share (`AnswersProper`). That says at once that the result register is left well-formed and that nothing of its
old contents reaches the new ones; both kinds of statement follow from `exec_answersProper`. -/
namespace Sys2Proof.Machine

/-! What an issue writes. -/

/-- Writing the answer of an issue to the result register: an error is raised, a value delivered. -/
def State.record (s : State) : Except OpError Value → State
  | .error e => s.raiseError e
  | .ok v => s.deliver v

/-- The answer of an issue under the checks, which `State.issue` records. -/
def checkedAnswer (ps : List ReadPort) (outOfRange : Bool) (v : Value) : Except OpError Value :=
  if typeFault ps then .error .typeMismatch
  else if shapeFault ps then .error .shapeMismatch
  else if outOfRange then .error .rangeError
  else .ok v

theorem issue_eq_record (s : State) (ps : List ReadPort) (r : Bool) (v : Value) :
    s.issue ps r v = s.record (checkedAnswer ps r v) := by
  unfold State.issue checkedAnswer
  split_ifs <;> rfl

theorem checkedAnswer_eq_ok_iff (ps : List ReadPort) (r : Bool) (v u : Value) :
    checkedAnswer ps r v = .ok u ↔ typeFault ps = false ∧ shapeFault ps = false ∧ r = false ∧ v = u := by
  unfold checkedAnswer
  cases typeFault ps <;> cases shapeFault ps <;> cases r <;> simp

/-- The answer is an error or a value of a shape. -/
def AnswerProper (a : Except OpError Value) : Prop := ∀ v, a = .ok v → Proper v

theorem answerProper_error (e : OpError) : AnswerProper (.error e) := fun _ h => nomatch h

theorem answerProper_ok {v : Value} (h : Proper v) : AnswerProper (.ok v) := fun _ hu => by cases hu; exact h

/-- The meaning of an operation answers a next state that records a proper answer, the same one from every state with
the same port values. -/
def AnswersProper (m : State → Host.Outcome State Fault Refusal) : Prop :=
  ∀ s : State, ∃ a, AnswerProper a ∧ ∀ t : State, t.ports = s.ports → m t = .next (t.record a)

/-- An issue that looks at nothing but the ports (40_issue_and_check.md R86), and whose value is proper once the checks
are passed. -/
theorem issue_answersProper {ps : State → List ReadPort} {r : State → Bool} {v : State → Value}
    (hproper : ∀ s, typeFault (ps s) = false → shapeFault (ps s) = false → r s = false → Proper (v s))
    (hports : ∀ s t : State, t.ports = s.ports → ps t = ps s ∧ r t = r s ∧ v t = v s := by
      intro s t hp; simp only [hp, and_self]) :
    AnswersProper fun s => .next (s.issue (ps s) (r s) (v s)) := by
  refine fun s => ⟨checkedAnswer (ps s) (r s) (v s), fun u hu => ?_, fun t ht => ?_⟩
  · obtain ⟨hty, hsh, hr, rfl⟩ := (checkedAnswer_eq_ok_iff _ _ _ _).1 hu
    exact hproper s hty hsh hr
  · obtain ⟨hps, hr, hv⟩ := hports s t ht
    simp only [issue_eq_record, hps, hr, hv]

/-- A port that must carry a shape's tag holds a value of the shape once the checks are passed. -/
theorem holds_of_checks {ps : List ReadPort} {v : Value} {sh : Shape} (hty : typeFault ps = false)
    (hsh : shapeFault ps = false) (hmem : needShape v sh ∈ ps) : Holds v sh :=
  ⟨(shapeFault_eq_false_iff ps).1 hsh _ hmem _ rfl,
    (isValue_iff_proper v).1 ((typeFault_eq_false_iff ps).1 hty _ hmem)⟩

/-! Well-formed masks in the geometry of a shape. -/

/-- A lane of a well-formed mask. -/
def FullOrClear {w : Nat} (x : BitVec w) : Prop := x = BitVec.allOnes w ∨ x = 0#w

/-- Every lane of the word, in the geometry of the shape, is all ones or all zeros (10_state.md R24). -/
def MaskLanes (sh : Shape) (d : Data) : Prop := ∀ k, k < shapeLanes sh → FullOrClear (lane (shapeWidth sh) d k)

theorem wellFormedMask_iff_maskLanes {t : Tag} {sh : Shape} (hw : tagWidth t = shapeWidth sh)
    (hn : tagLanes t = shapeLanes sh) (d : Data) : wellFormedMask ⟨t, d⟩ = true ↔ MaskLanes sh d := by
  rw [wellFormedMask_iff, MaskLanes]
  dsimp only
  rw [hw, hn]
  rfl

/-- A word under a shape's tag is a value exactly when a mask shape's lanes are full or clear. -/
theorem proper_tag_iff (sh : Shape) (d : Data) :
    Proper ⟨Shape.tag sh, d⟩ ↔ (isMaskTag (Shape.tag sh) = true → MaskLanes sh d) := by
  rw [← isValue_iff_proper, isValue_iff, wellFormedMask_iff_maskLanes (tagWidth_tag sh) (tagLanes_tag sh)]
  simp

/-- Under the tag of a shape that is no mask every word is a value. -/
theorem proper_of_not_mask {sh : Shape} (h : isMaskTag (Shape.tag sh) = false) (d : Data) :
    Proper ⟨Shape.tag sh, d⟩ :=
  (proper_tag_iff sh d).2 fun hm => by simp [h] at hm

theorem proper_maskOf_of_maskLanes {sh : Shape} {d : Data} (h : MaskLanes sh d) :
    Proper ⟨maskOf (Shape.tag sh), d⟩ := by
  rw [← isValue_iff_proper, isValue_iff, wellFormedMask_iff_maskLanes (sh := sh) (by simp) (by simp)]
  exact ⟨validTag_maskOf _, fun _ => h⟩

theorem Holds.maskLanes {v : Value} {sh : Shape} (h : Holds v sh) (hm : isMaskTag (Shape.tag sh) = true) :
    MaskLanes sh v.data := by
  obtain ⟨t, d⟩ := v
  obtain ⟨rfl, hp⟩ := h
  exact (proper_tag_iff sh d).1 hp hm

theorem maskLane_fullOrClear (w : Nat) (p : Bool) : FullOrClear (maskLane w p) := by
  cases p
  · exact .inr rfl
  · exact .inl rfl

theorem MaskLanes.of_vec {sh : Shape} {f : Nat → BitVec (shapeWidth sh)}
    (h : ∀ k, k < shapeLanes sh → FullOrClear (f k)) : MaskLanes sh (vec (shapeWidth sh) f (shapeLanes sh)) := by
  intro k hk
  rw [lane_vec_shape sh f k hk]
  exact h k hk

/-! Masks are closed under the bitwise operations (43_bitwise.md R134). -/

theorem MaskLanes.and {sh : Shape} {x y : Data} (hx : MaskLanes sh x) (hy : MaskLanes sh y) :
    MaskLanes sh (wordAnd x y) := by
  intro k hk
  rw [wordAnd, lane_and]
  rcases hx k hk with h | h <;> rcases hy k hk with h' | h' <;> simp [FullOrClear, h, h']

theorem MaskLanes.or {sh : Shape} {x y : Data} (hx : MaskLanes sh x) (hy : MaskLanes sh y) :
    MaskLanes sh (wordOr x y) := by
  intro k hk
  rw [wordOr, lane_or]
  rcases hx k hk with h | h <;> rcases hy k hk with h' | h' <;> simp [FullOrClear, h, h']

theorem MaskLanes.xor {sh : Shape} {x y : Data} (hx : MaskLanes sh x) (hy : MaskLanes sh y) :
    MaskLanes sh (wordXor x y) := by
  intro k hk
  rw [wordXor, lane_xor]
  rcases hx k hk with h | h <;> rcases hy k hk with h' | h' <;> simp [FullOrClear, h, h']

theorem MaskLanes.not {sh : Shape} {x : Data} (hx : MaskLanes sh x) : MaskLanes sh (wordNot x) := by
  intro k hk
  have hfit : shapeWidth sh * (k + 1) ≤ 128 :=
    (Nat.mul_le_mul_left _ hk).trans_eq (shapeWidth_mul_shapeLanes sh)
  rw [wordNot, lane_not _ _ _ hfit]
  rcases hx k hk with h | h <;> simp [FullOrClear, h]

/-! Each operand form answers an error or a value. -/

theorem unary_answersProper (sh : Shape) (f : BitVec (shapeWidth sh) → BitVec (shapeWidth sh))
    (h : isMaskTag (Shape.tag sh) = false) : AnswersProper fun s => .next (s.unary sh f) :=
  issue_answersProper fun _ _ _ _ => proper_of_not_mask h _

theorem binary_answersProper (sh : Shape)
    (f : BitVec (shapeWidth sh) → BitVec (shapeWidth sh) → BitVec (shapeWidth sh))
    (h : isMaskTag (Shape.tag sh) = false) : AnswersProper fun s => .next (s.binary sh f) :=
  issue_answersProper fun _ _ _ _ => proper_of_not_mask h _

theorem ternary_answersProper (sh : Shape)
    (f : BitVec (shapeWidth sh) → BitVec (shapeWidth sh) → BitVec (shapeWidth sh) → BitVec (shapeWidth sh))
    (h : isMaskTag (Shape.tag sh) = false) : AnswersProper fun s => .next (s.ternary sh f) :=
  issue_answersProper fun _ _ _ _ => proper_of_not_mask h _

theorem unaryWord_answersProper (sh : Shape) (f : Data → Data) (hf : ∀ x, MaskLanes sh x → MaskLanes sh (f x)) :
    AnswersProper fun s => .next (s.unaryWord sh f) := by
  refine issue_answersProper fun s hty hsh _ => (proper_tag_iff sh _).2 fun hm => ?_
  have ha : Holds s.ports.a sh := holds_of_checks hty hsh (by simp)
  exact hf _ (ha.maskLanes hm)

theorem binaryWord_answersProper (sh : Shape) (f : Data → Data → Data)
    (hf : ∀ x y, MaskLanes sh x → MaskLanes sh y → MaskLanes sh (f x y)) :
    AnswersProper fun s => .next (s.binaryWord sh f) := by
  refine issue_answersProper fun s hty hsh _ => (proper_tag_iff sh _).2 fun hm => ?_
  have ha : Holds s.ports.a sh := holds_of_checks hty hsh (by simp)
  have hb : Holds s.ports.b sh := holds_of_checks hty hsh (by simp)
  exact hf _ _ (ha.maskLanes hm) (hb.maskLanes hm)

theorem compare_answersProper (sh : Shape) (P : BitVec (shapeWidth sh) → BitVec (shapeWidth sh) → Bool) :
    AnswersProper fun s => .next (s.compare sh P) :=
  issue_answersProper fun _ _ _ _ => proper_maskOf_of_maskLanes (.of_vec fun _ _ => maskLane_fullOrClear _ _)

/-- Every index is in range (45_rearrange.md R150) once the checks are passed, so each lane of the result is a lane of
the mask. -/
theorem swizzle_answersProper (sh : Shape) : AnswersProper fun s => .next (s.swizzle sh) := by
  refine issue_answersProper fun s hty hsh hr => (proper_tag_iff sh _).2 fun hm => .of_vec fun k hk => ?_
  have ha : Holds s.ports.a sh := holds_of_checks hty hsh (by simp)
  exact ha.maskLanes hm _ ((rangeFault_eq_false_iff _ _ _).1 hr k hk)

theorem shuffleLane_fullOrClear {sh : Shape} {x y : Data} (hx : MaskLanes sh x) (hy : MaskLanes sh y) {j : Nat}
    (hj : j < 2 * shapeLanes sh) : FullOrClear (shuffleLane sh x y j) := by
  unfold shuffleLane
  split
  · next h => exact hx j h
  · exact hy _ (by omega)

theorem shuffle_answersProper (sh : Shape) : AnswersProper fun s => .next (s.shuffle sh) := by
  refine issue_answersProper fun s hty hsh hr => (proper_tag_iff sh _).2 fun hm => .of_vec fun k hk => ?_
  have ha : Holds s.ports.a sh := holds_of_checks hty hsh (by simp)
  have hb : Holds s.ports.b sh := holds_of_checks hty hsh (by simp)
  exact shuffleLane_fullOrClear (ha.maskLanes hm) (hb.maskLanes hm) ((rangeFault_eq_false_iff _ _ _).1 hr k hk)

theorem select_answersProper (sh : Shape) : AnswersProper fun s => .next (s.select sh) := by
  refine issue_answersProper fun s hty hsh _ => (proper_tag_iff sh _).2 fun hm => .of_vec fun k hk => ?_
  have hb : Holds s.ports.b sh := holds_of_checks hty hsh (by simp)
  have hc : Holds s.ports.c sh := holds_of_checks hty hsh (by simp)
  split
  · exact hb.maskLanes hm k hk
  · exact hc.maskLanes hm k hk

theorem bitSelect_answersProper (sh : Shape) (h : isMaskTag (Shape.tag sh) = false) :
    AnswersProper fun s => .next (s.bitSelect sh) :=
  issue_answersProper fun _ _ _ _ => proper_of_not_mask h _

theorem convert_answersProper (dst src : Shape) (conv : BitVec (shapeWidth src) → BitVec (shapeWidth dst))
    (h : isMaskTag (Shape.tag dst) = false) : AnswersProper fun s => .next (s.convert dst src conv) :=
  issue_answersProper fun _ _ _ _ => proper_of_not_mask h _

theorem retag_answersProper (dst src : Shape) (h : isMaskTag (Shape.tag dst) = false) :
    AnswersProper fun s => .next (s.retag dst src) :=
  issue_answersProper fun _ _ _ _ => proper_of_not_mask h _

theorem check_of_ready {s : State} {sh : Shape} (h : ReadyA s sh) :
    s.check sh = s.deliver ⟨Shape.tag sh, s.ports.a.data⟩ :=
  (check_spec s sh).elim And.right fun h' => absurd h h'.1

theorem check_of_not_ready {s : State} {sh : Shape} (h : ¬ ReadyA s sh) :
    s.check sh = s.raiseError .typeMismatch :=
  (check_spec s sh).elim (fun h' => absurd h'.1 h) And.right

/-- CHECK delivers the operand only where it is a value of the shape (40_issue_and_check.md R85). -/
theorem check_answersProper (sh : Shape) : AnswersProper fun s => .next (s.check sh) := by
  intro s
  by_cases h : ReadyA s sh
  · refine ⟨.ok ⟨Shape.tag sh, s.ports.a.data⟩, answerProper_ok ?_, fun t ht => ?_⟩
    · exact (proper_tag_iff sh _).2 (Holds.maskLanes h)
    · have h' : ReadyA t sh := by rwa [ReadyA, ht]
      simp only [check_of_ready h', ht, State.record]
  · refine ⟨.error .typeMismatch, answerProper_error _, fun t ht => ?_⟩
    have h' : ¬ ReadyA t sh := by rwa [ReadyA, ht]
    simp only [check_of_not_ready h', State.record]

/-- Every instruction answers an error or a value, by its operand form. -/
theorem exec_answersProper (i : Instr) : AnswersProper (exec i) := by
  cases i with
  | addF64x2 | addF32x4 | addI32x4 | addI16x8 | addI8x16 | subF64x2 | subF32x4 | subI32x4 | subI16x8 | subI8x16
  | mulF64x2 | mulF32x4 | mulI32x4 | mulI16x8 | mulI8x16 | divF64x2 | divF32x4 | divI32x4 | divI16x8 | divI8x16
  | minF64x2 | minF32x4 | minI32x4 | minI16x8 | minI8x16 | maxF64x2 | maxF32x4 | maxI32x4 | maxI16x8 | maxI8x16
  | minnumF64x2 | minnumF32x4 | maxnumF64x2 | maxnumF32x4 =>
    exact binary_answersProper _ _ rfl
  | absF64x2 | absF32x4 | absI32x4 | absI16x8 | absI8x16 | negF64x2 | negF32x4 | negI32x4 | negI16x8 | negI8x16
  | sqrtF64x2 | sqrtF32x4 | rcpaF64x2 | rcpaF32x4 | rsqaF64x2 | rsqaF32x4 =>
    exact unary_answersProper _ _ rfl
  | clampF64x2 | clampF32x4 | clampI32x4 | clampI16x8 | clampI8x16 =>
    exact ternary_answersProper _ _ rfl
  | andF64x2 | andF32x4 | andI32x4 | andI16x8 | andI8x16 | andM64x2 | andM32x4 | andM16x8 | andM8x16 =>
    exact binaryWord_answersProper _ _ fun _ _ => MaskLanes.and
  | orF64x2 | orF32x4 | orI32x4 | orI16x8 | orI8x16 | orM64x2 | orM32x4 | orM16x8 | orM8x16 =>
    exact binaryWord_answersProper _ _ fun _ _ => MaskLanes.or
  | xorF64x2 | xorF32x4 | xorI32x4 | xorI16x8 | xorI8x16 | xorM64x2 | xorM32x4 | xorM16x8 | xorM8x16 =>
    exact binaryWord_answersProper _ _ fun _ _ => MaskLanes.xor
  | notF64x2 | notF32x4 | notI32x4 | notI16x8 | notI8x16 | notM64x2 | notM32x4 | notM16x8 | notM8x16 =>
    exact unaryWord_answersProper _ _ fun _ => MaskLanes.not
  | ltF64x2 | ltF32x4 | ltI32x4 | ltI16x8 | ltI8x16 | leF64x2 | leF32x4 | leI32x4 | leI16x8 | leI8x16 | eqF64x2
  | eqF32x4 | eqI32x4 | eqI16x8 | eqI8x16 | neF64x2 | neF32x4 | neI32x4 | neI16x8 | neI8x16 | gtF64x2 | gtF32x4
  | gtI32x4 | gtI16x8 | gtI8x16 | geF64x2 | geF32x4 | geI32x4 | geI16x8 | geI8x16 =>
    exact compare_answersProper _ _
  | swizzleF64x2 | swizzleF32x4 | swizzleI32x4 | swizzleI16x8 | swizzleI8x16 | swizzleM64x2 | swizzleM32x4
  | swizzleM16x8 | swizzleM8x16 =>
    exact swizzle_answersProper _
  | shuffleF64x2 | shuffleF32x4 | shuffleI32x4 | shuffleI16x8 | shuffleI8x16 | shuffleM64x2 | shuffleM32x4
  | shuffleM16x8 | shuffleM8x16 =>
    exact shuffle_answersProper _
  | selectF64x2 | selectF32x4 | selectI32x4 | selectI16x8 | selectI8x16 | selectM64x2 | selectM32x4 | selectM16x8
  | selectM8x16 =>
    exact select_answersProper _
  | bitselectF64x2 | bitselectF32x4 | bitselectI32x4 | bitselectI16x8 | bitselectI8x16 =>
    exact bitSelect_answersProper _ rfl
  | cvtF64x2F32x4 | cvtF64x2I32x4 | cvtF64x2I16x8 | cvtF64x2I8x16 | cvtF32x4F64x2 | cvtF32x4I32x4 | cvtF32x4I16x8
  | cvtF32x4I8x16 | cvtI32x4F64x2 | cvtI32x4F32x4 | cvtI32x4I16x8 | cvtI32x4I8x16 | cvtI16x8F64x2 | cvtI16x8F32x4
  | cvtI16x8I32x4 | cvtI16x8I8x16 | cvtI8x16F64x2 | cvtI8x16F32x4 | cvtI8x16I32x4 | cvtI8x16I16x8 =>
    exact convert_answersProper _ _ _ rfl
  | cvtF64x2F64x2 | cvtF32x4F32x4 | cvtI32x4I32x4 | cvtI16x8I16x8 | cvtI8x16I8x16 | bitcastF64x2F64x2
  | bitcastF64x2F32x4 | bitcastF64x2I32x4 | bitcastF64x2I16x8 | bitcastF64x2I8x16 | bitcastF32x4F64x2
  | bitcastF32x4F32x4 | bitcastF32x4I32x4 | bitcastF32x4I16x8 | bitcastF32x4I8x16 | bitcastI32x4F64x2
  | bitcastI32x4F32x4 | bitcastI32x4I32x4 | bitcastI32x4I16x8 | bitcastI32x4I8x16 | bitcastI16x8F64x2
  | bitcastI16x8F32x4 | bitcastI16x8I32x4 | bitcastI16x8I16x8 | bitcastI16x8I8x16 | bitcastI8x16F64x2
  | bitcastI8x16F32x4 | bitcastI8x16I32x4 | bitcastI8x16I16x8 | bitcastI8x16I8x16 =>
    exact retag_answersProper _ _ rfl
  | checkF64x2 | checkF32x4 | checkI32x4 | checkI16x8 | checkI8x16 | checkM64x2 | checkM32x4 | checkM16x8
  | checkM8x16 =>
    exact check_answersProper _

/-! What a step leaves in the result register. -/

theorem step_of_reset (s : State) (hr : s.ports.reset = true) : step s = .next s.resetStep.present := by
  simp [step, hr]

theorem step_of_idle (s : State) (hr : s.ports.reset = false) (hv : s.ports.opValid = false) :
    step s = .next s.idleStep.present := by
  simp [step, hr, hv]

/-- A step with RESET or OP_VALID high resets, or records a proper answer; and so does the step of every state with
the same port values, with the same answer. -/
theorem step_of_reset_or_issue (s : State) (h : s.ports.reset = true ∨ s.ports.opValid = true) :
    (∀ t : State, t.ports = s.ports → step t = .next t.resetStep.present) ∨
    ∃ a, AnswerProper a ∧ ∀ t : State, t.ports = s.ports → step t = .next (t.record a).present := by
  cases hr : s.ports.reset with
  | true => exact .inl fun t ht => step_of_reset t (by rw [ht, hr])
  | false =>
    have hv : s.ports.opValid = true := by simpa [hr] using h
    right
    cases hd : decodeWord s.ports.op with
    | error e =>
      refine ⟨.error .illegalOp, answerProper_error _, fun t ht => ?_⟩
      exact step_of_reserved t e (by rw [ht, hr]) (by rw [ht, hv]) (by rw [ht, hd])
    | ok i =>
      obtain ⟨a, ha, hexec⟩ := exec_answersProper i s
      refine ⟨a, ha, fun t ht => ?_⟩
      exact step_of_decoded t i _ (by rw [ht, hr]) (by rw [ht, hv]) (by rw [ht, hd]) (hexec t ht)

/-- Codes 5 to 7 are never raised (60_exceptions.md R170). -/
theorem errorCode_le_four (e : OpError) : (errorCode e).toNat ≤ 4 := by cases e <;> decide

theorem resultOk_record {a : Except OpError Value} (h : AnswerProper a) (s : State) : ResultOk (s.record a) := by
  cases a with
  | error e => exact .inl ⟨rfl, rfl, errorCode_le_four e⟩
  | ok v => exact .inr ⟨h v rfl, rfl⟩

theorem resultOk_resetStep (s : State) : ResultOk s.resetStep := .inl ⟨rfl, rfl, Nat.zero_le 4⟩

@[simp] theorem resultOk_idleStep_iff (s : State) : ResultOk s.idleStep ↔ ResultOk s := Iff.rfl

@[simp] theorem resultOk_present_iff (s : State) : ResultOk s.present ↔ ResultOk s := by simp [ResultOk]

@[simp] theorem sameResult_present_iff (s t : State) : SameResult s.present t.present ↔ SameResult s t := by
  simp [SameResult]

theorem sameResult_resetStep (s t : State) : SameResult s.resetStep t.resetStep := ⟨rfl, rfl, rfl, rfl⟩

theorem sameResult_record (s t : State) (a : Except OpError Value) : SameResult (s.record a) (t.record a) := by
  cases a <;> exact ⟨rfl, rfl, rfl, rfl⟩

/-! The statements. -/

/-- Settles O23: a reset writes NONE and zeros, an issue records an error or a proper value. -/
theorem issueOrResetEstablishesResultOk : Obligations.IssueOrResetEstablishesResultOk := by
  intro s h
  rcases step_of_reset_or_issue s h with hstep | ⟨a, ha, hstep⟩
  · exact ⟨_, hstep s rfl, by simpa using resultOk_resetStep s⟩
  · exact ⟨_, hstep s rfl, by simpa using resultOk_record ha s⟩

/-- Settles O22: a reset or an issue establishes the invariant, and an idle step holds tag, data and code. -/
theorem everyStepKeepsResultOk : Obligations.EveryStepKeepsResultOk := by
  intro s t hs ht
  by_cases h : s.ports.reset = true ∨ s.ports.opValid = true
  · obtain ⟨u, hu, hok⟩ := issueOrResetEstablishesResultOk s h
    obtain rfl : u = t := by simpa [hu] using ht
    exact hok
  · obtain ⟨hr, hv⟩ : s.ports.reset = false ∧ s.ports.opValid = false := by simpa using h
    obtain rfl : s.idleStep.present = t := by simpa [step_of_idle s hr hv] using ht
    simpa using hs

/-- Settles O8: a reset and an issue overwrite all four power-up fields, the second with an answer the ports decide. -/
theorem powerUpContentsNeverShowAfterIssue : Obligations.PowerUpContentsNeverShowAfterIssue := by
  intro p ps h
  rcases step_of_reset_or_issue (State.powerUp p ps) h with hstep | ⟨a, -, hstep⟩
  · exact ⟨_, _, hstep _ rfl, hstep _ rfl, rfl⟩
  · exact ⟨_, _, hstep _ rfl, hstep _ rfl, by cases a <;> rfl⟩

/-- Settles O19: the two states are reset, or record the answer their common ports decide. -/
theorem resultDependsOnIssueInputsOnly : Obligations.ResultDependsOnIssueInputsOnly := by
  intro s s' t t' hp h ht ht'
  rcases step_of_reset_or_issue s h with hstep | ⟨a, -, hstep⟩ <;>
    rw [hstep s rfl] at ht <;> rw [hstep s' hp.symm] at ht' <;> cases ht <;> cases ht'
  · simpa using sameResult_resetStep s s'
  · simpa using sameResult_record s s' a

/-- Settles O1: `State.reset` is a closed record with these fields. -/
theorem resetStateHoldsResetValues : Obligations.ResetStateHoldsResetValues := ⟨rfl, rfl, rfl, rfl⟩

/-- Settles O21: `State.reset` is what a reset writes. -/
theorem resetStateResultOk : Obligations.ResetStateResultOk := resultOk_resetStep State.reset

end Sys2Proof.Machine
end

section
/-! PROOFS. The host's loads and stores (20_memory.md R46 to R51).

Each load or store that exists, of all lanes or of the first 1 to 3, is `loadLanes` or `storeLanes` of `n` lanes. What
those can answer is in Laws/HostAgent.lean; here each case is turned round, into the answer under the condition of the
case. -/
namespace Sys2Proof.Machine

/-! A value built from its lanes. -/

@[simp] theorem valueOfLanes_tag (sh : Shape) (f : Nat → BitVec (shapeWidth sh)) :
    (valueOfLanes sh f).tag = Shape.tag sh := rfl

theorem lane_valueOfLanes (sh : Shape) (f : Nat → BitVec (shapeWidth sh)) {k : Nat} (hk : k < shapeLanes sh) :
    lane (shapeWidth sh) (valueOfLanes sh f).data k = f k := lane_vec_shape sh f k hk

/-! The transfers that exist. -/

/-- A transfer of `n` lanes is of the whole shape or of its first 1 to 3 lanes, fewer than it has (20_memory.md R47
to R50). -/
def TransferExists (sh : Shape) (n : Nat) : Prop := n = shapeLanes sh ∨ (1 ≤ n ∧ n ≤ 3 ∧ n < shapeLanes sh)

theorem prefixExists_iff (sh : Shape) (n : Nat) :
    prefixExists sh n = true ↔ 1 ≤ n ∧ n ≤ 3 ∧ n < shapeLanes sh := decide_eq_true_iff

theorem TransferExists.prefixExists {sh : Shape} {n : Nat} (h : TransferExists sh n) (hn : n ≠ shapeLanes sh) :
    prefixExists sh n = true := (prefixExists_iff sh n).2 (h.resolve_left hn)

theorem hostLoad_or_prefix_eq {sh : Shape} {n : Nat} (h : TransferExists sh n) (buf : Buffer) (index : IndexArg) :
    (if n = shapeLanes sh then hostLoad sh buf index else hostLoadPrefix sh n buf index) =
      loadLanes sh n buf index := by
  split
  next hn => rw [hn, hostLoad]
  next hn => rw [hostLoadPrefix, if_pos (h.prefixExists hn)]

theorem hostStore_or_prefix_eq {sh : Shape} {n : Nat} (h : TransferExists sh n) (buf : Buffer) (index : IndexArg)
    (v : Value) :
    (if n = shapeLanes sh then hostStore sh buf index v else hostStorePrefix sh n buf index v) =
      storeLanes sh n buf index v := by
  split
  next hn => rw [hn, hostStore]
  next hn => rw [hostStorePrefix, if_pos (h.prefixExists hn)]

/-! A buffer of another kind (20_memory.md R46). -/

theorem loadLanes_otherKind {sh : Shape} {buf : Buffer} (hk : elementKind sh ≠ some buf.kind) (n : Nat)
    (index : IndexArg) : loadLanes sh n buf index = .error .notACall := by
  simp only [loadLanes, (elems_eq_none_iff sh buf).2 hk]

/-- The kind of the buffer is looked at before the value's tag. -/
theorem storeLanes_otherKind {sh : Shape} {buf : Buffer} (hk : elementKind sh ≠ some buf.kind) (n : Nat)
    (index : IndexArg) (v : Value) : storeLanes sh n buf index v = .error .notACall := by
  simp only [storeLanes, (elems_eq_none_iff sh buf).2 hk]

/-! A buffer of the shape's kind: inside the bounds, and outside (20_memory.md R47 to R51). -/

section
variable {sh : Shape} {buf : Buffer} {l : List (BitVec (shapeWidth sh))} {n : Nat} {index : IndexArg}

theorem kind_of_elems (he : buf.elems sh = some l) : elementKind sh = some buf.kind :=
  (elems_isSome_iff sh buf).1 (Option.isSome_of_eq_some he)

theorem loadLanes_inside (he : buf.elems sh = some l) {i : Nat} (hle : i + n ≤ l.length) :
    loadLanes sh n buf (.int i) = .ok (valueOfLanes sh fun k => if k < n then l.getD (i + k) 0 else 0) := by
  simpa [he, kind_of_elems he, hle, Nat.not_lt.2 hle] using loadLanes_cases sh n buf (.int i)

theorem storeLanes_inside (he : buf.elems sh = some l) {i : Nat} (hle : i + n ≤ l.length) {v : Value}
    (hv : v.tag = Shape.tag sh) : storeLanes sh n buf (.int i) v =
      .ok (buf.withElems sh (overwrite l i (fun k => lane (shapeWidth sh) v.data k) n)) := by
  simpa [he, kind_of_elems he, hle, Nat.not_lt.2 hle] using storeLanes_cases sh n buf (.int i) v hv

/-- Outside the bounds no start index carries the transfer, whatever more is asked of it. -/
theorem no_start_of_outside {len : Nat} (hout : ∀ i : Nat, index = .int i → len < i + n) (P : Nat → Prop) :
    ¬ ∃ i : Nat, index = .int i ∧ i + n ≤ len ∧ P i :=
  fun ⟨i, hi, hle, _⟩ => Nat.not_le.2 (hout i hi) hle

theorem loadLanes_outside (he : buf.elems sh = some l) (hout : ∀ i : Nat, index = .int i → l.length < i + n) :
    loadLanes sh n buf index = .error .rangeError := by
  obtain ⟨hk, -⟩ | ⟨_, -, hm, hcases⟩ := loadLanes_cases sh n buf index
  · exact absurd (kind_of_elems he) hk
  · cases he.symm.trans hm
    exact (hcases.resolve_left (no_start_of_outside hout _)).2

theorem storeLanes_outside (he : buf.elems sh = some l) (hout : ∀ i : Nat, index = .int i → l.length < i + n)
    {v : Value} (hv : v.tag = Shape.tag sh) : storeLanes sh n buf index v = .error .rangeError := by
  obtain ⟨hk, -⟩ | ⟨_, -, hm, hcases⟩ := storeLanes_cases sh n buf index v hv
  · exact absurd (kind_of_elems he) hk
  · cases he.symm.trans hm
    exact (hcases.resolve_left (no_start_of_outside hout _)).2

end

/-! The statement. -/

/-- Settles O59: the bounds check decides between moving the elements and RangeError; the moved elements are read off
the lanes of the built value, or off the overwritten list. -/
theorem hostLoadsAndStoresCheckBounds : Obligations.HostLoadsAndStoresCheckBounds := by
  intro sh buf index n hn
  simp only [hostLoad_or_prefix_eq hn, hostStore_or_prefix_eq hn]
  refine ⟨fun hk => ⟨loadLanes_otherKind hk n index, storeLanes_otherKind hk n index⟩, fun hk => ?_⟩
  obtain ⟨l, he⟩ := Option.isSome_iff_exists.1 ((elems_isSome_iff sh buf).2 hk)
  refine ⟨l, he, ?inside, fun hout => ⟨loadLanes_outside he hout, fun v => storeLanes_outside he hout⟩⟩
  rintro i rfl hle
  refine ⟨⟨_, loadLanes_inside he hle, valueOfLanes_tag sh _, fun k hk => ?load⟩, fun v hv =>
    ⟨_, storeLanes_inside he hle hv, kind_withElems sh _ buf hk, _, elems_withElems sh _ buf hk,
      overwrite_length l i _ n, fun j => ⟨?written, overwrite_outside l i _ n j⟩⟩⟩
  case load =>
    rw [lane_valueOfLanes sh _ hk]
    refine ⟨fun hkn => ?_, fun hkn => if_neg (Nat.not_lt.2 hkn)⟩
    have hlen : i + k < l.length := by omega
    rw [if_pos hkn, List.getD_eq_getElem l 0 hlen, List.getElem?_eq_getElem hlen]
  case written =>
    rintro k hkn rfl
    exact overwrite_inside l i _ n k hkn hle

end Sys2Proof.Machine
end

section
/-! PROOFS. Operation words (30_encoding.md R60 to R64, R70, R73): the decoder, the encoder and the legal words.

A word is its four fields (Laws/Decode.lean), so every statement is about `OpFields`. The decoder's tables are read both
ways: `decodeFields f` is an instruction exactly when `f` is that instruction's fields. The legal words are those of the
list `legalFields`, built from the sets of R63 operation by operation, and are counted by it. -/
namespace Sys2Proof
open Machine

/-! The decoder's tables. -/

/-- An instruction in the table of the plain operations has the operation and shape it is listed under. -/
theorem plainOf_eq_some {op : Opc} {sh : Shape} {i : Instr} (h : plainOf op sh = some i) :
    Instr.opc i = op ∧ Instr.shape i = sh ∧ Instr.source i = none := by
  cases op <;> cases sh <;> cases h <;> exact ⟨rfl, rfl, rfl⟩

/-- An instruction in the table of the conversions has the operation and the two shapes it is listed under. -/
theorem conversionOf_eq_some {op : Opc} {dst src : Shape} {i : Instr} (h : conversionOf op dst src = some i) :
    Instr.opc i = op ∧ Instr.shape i = dst ∧ Instr.source i = some src := by
  unfold conversionOf at h
  split at h <;> cases dst <;> cases h <;> exact ⟨rfl, rfl, rfl⟩

/-- The fields an accepted word has been read as, and the table entry found there (30_encoding.md R64). -/
theorem decodeFields_cases {f : OpFields} {i : Instr} (h : decodeFields f = .ok i) :
    f.rsvd = 0#18 ∧ ∃ op sh, Opc.ofCode f.opc = some op ∧ Shape.ofTag f.shape = some sh ∧
      ((∃ src, Shape.ofTag f.sshape = some src ∧ conversionOf op sh src = some i) ∨
        (f.sshape = 0x0#4 ∧ plainOf op sh = some i)) := by
  unfold decodeFields at h
  split at h
  next => cases h
  next hrsvd =>
  split at h
  next => cases h
  next op hop =>
  split at h
  next => cases h
  next sh hsh =>
  refine ⟨not_not.1 hrsvd, op, sh, hop, hsh, ?_⟩
  split at h
  · split at h
    next => cases h
    next src hsrc =>
    split at h
    next hc => cases h; exact .inl ⟨src, hsrc, hc⟩
    next => split at h <;> cases h
  · split at h
    next => cases h
    next hp =>
    split at h
    next hs => cases h; exact .inr ⟨hs, hp⟩
    next => cases h

/-- Every instruction is in the tables, under its own fields. -/
theorem decodeFields_fields (i : Instr) : decodeFields (Instr.fields i) = .ok i := by cases i <;> rfl

/-- Fields the decoder accepts are those of the instruction it answers. -/
theorem fields_of_decodeFields {f : OpFields} {i : Instr} (h : decodeFields f = .ok i) : f = Instr.fields i := by
  obtain ⟨hrsvd, op, sh, hop, hsh, ⟨src, hsrc, hi⟩ | ⟨hss, hi⟩⟩ := decodeFields_cases h
  · obtain ⟨rfl, rfl, hs⟩ := conversionOf_eq_some hi
    simp only [Instr.fields, hs, code_of_ofCode _ _ hop, tag_of_ofTag _ _ hsh, tag_of_ofTag _ _ hsrc, ← hrsvd]
  · obtain ⟨rfl, rfl, hs⟩ := plainOf_eq_some hi
    simp only [Instr.fields, hs, code_of_ofCode _ _ hop, tag_of_ofTag _ _ hsh, ← hss, ← hrsvd]

theorem decodeFields_eq_ok_iff (f : OpFields) (i : Instr) : decodeFields f = .ok i ↔ f = Instr.fields i :=
  ⟨fields_of_decodeFields, fun h => h ▸ decodeFields_fields i⟩

/-- Words and fields are in bijection. -/
theorem ofWord_eq_iff (w : OpWord) (f : OpFields) : OpFields.ofWord w = f ↔ w = OpFields.word f :=
  ⟨fun h => by rw [← h, word_of_fields], fun h => by rw [h, fields_of_word]⟩

/-- Settles O11: the tables read both ways on the fields, carried to words by their bijection with the fields. -/
theorem decodeEncodeAgree : Obligations.DecodeEncodeAgree := fun i w =>
  (decodeFields_eq_ok_iff (OpFields.ofWord w) i).trans (ofWord_eq_iff w (Instr.fields i))

/-- The number of an encoded instruction is read as the instruction. -/
theorem decodeTableWord_of_encode {i : Instr} {n : Nat} (h : (encode i).toNat = n) :
    decodeTableWord 32 n = some i := by
  have hn : n < 2 ^ 32 := h ▸ (encode i).isLt
  have hw : BitVec.ofNat 32 n = encode i := by rw [← h, BitVec.ofNat_toNat, BitVec.setWidth_eq]
  rw [decodeTableWord, Nat.mod_eq_of_lt hn, if_pos hn, hw, (decodeEncodeAgree i _).2 rfl]

/-- Settles O12: each of the ten numbers is that of its instruction's word. -/
theorem listedWordsDecode : Obligations.ListedWordsDecode :=
  ⟨decodeTableWord_of_encode rfl, decodeTableWord_of_encode rfl, decodeTableWord_of_encode rfl,
    decodeTableWord_of_encode rfl, decodeTableWord_of_encode rfl, decodeTableWord_of_encode rfl,
    decodeTableWord_of_encode rfl, decodeTableWord_of_encode rfl, decodeTableWord_of_encode rfl,
    decodeTableWord_of_encode rfl⟩

/-! The legal words. -/

/-- The operation codes of the opcode map (30_encoding.md R62). -/
def listedOpcs : List (BitVec 6) := opcsOverNUM ++ opcsOverFLT ++ opcsOverALL ++ opcsConversion

/-- The source tags an operation may have (30_encoding.md R63). -/
def sourceTags (opc : BitVec 6) : List Tag := if opcsConversion.contains opc then tagsNUM else [0x0#4]

/-- The legal fields of one operation code. -/
def legalFieldsOf (opc : BitVec 6) : List OpFields :=
  (legalShapes opc ×ˢ sourceTags opc).map fun p => ⟨opc, p.1, p.2, 0#18⟩

/-- The fields of the legal words, operation by operation. -/
def legalFields : List OpFields := listedOpcs.flatMap legalFieldsOf

theorem mem_legalFieldsOf {opc : BitVec 6} {f : OpFields} : f ∈ legalFieldsOf opc ↔
    f.opc = opc ∧ f.shape ∈ legalShapes opc ∧ f.sshape ∈ sourceTags opc ∧ f.rsvd = 0#18 := by
  obtain ⟨o, t, s, r⟩ := f
  simp only [legalFieldsOf, List.mem_map, Prod.exists, List.mem_product, OpFields.mk.injEq]
  constructor
  · rintro ⟨_, _, ⟨ht, hs⟩, rfl, rfl, rfl, rfl⟩
    exact ⟨rfl, ht, hs, rfl⟩
  · rintro ⟨rfl, ht, hs, rfl⟩
    exact ⟨t, s, ⟨ht, hs⟩, rfl, rfl, rfl, rfl⟩

/-- An operation code outside the opcode map has no legal shape. -/
theorem mem_listedOpcs_of_mem_legalShapes {opc : BitVec 6} {t : Tag} (h : t ∈ legalShapes opc) : opc ∈ listedOpcs := by
  by_contra hopc
  simp only [listedOpcs, List.mem_append, not_or] at hopc
  simp [legalShapes, hopc] at h

theorem mem_sourceTags_iff (opc : BitVec 6) (t : Tag) : t ∈ sourceTags opc ↔
    (if opcsConversion.contains opc then tagsNUM.contains t else t == 0x0#4) = true := by
  unfold sourceTags
  split <;> simp

theorem mem_legalFields_iff (f : OpFields) : f ∈ legalFields ↔ f.legal = true := by
  simp only [legalFields, List.mem_flatMap, mem_legalFieldsOf, OpFields.legal, Bool.and_eq_true, beq_iff_eq,
    mem_sourceTags_iff, List.contains_iff_mem]
  constructor
  · rintro ⟨opc, -, rfl, ht, hs, hr⟩
    exact ⟨⟨hr, ht⟩, hs⟩
  · rintro ⟨⟨hr, ht⟩, hs⟩
    exact ⟨f.opc, mem_listedOpcs_of_mem_legalShapes ht, rfl, ht, hs, hr⟩

theorem legalFieldsOf_nodup (opc : BitVec 6) : (legalFieldsOf opc).Nodup := by
  have hshape : (legalShapes opc).Nodup := by unfold legalShapes; split_ifs <;> decide
  have hsource : (sourceTags opc).Nodup := by unfold sourceTags; split_ifs <;> decide
  refine (hshape.product hsource).map fun p q h => ?_
  simpa [Prod.ext_iff] using h

/-- The lists of two operation codes have no fields in common, since the fields hold the code. -/
theorem legalFields_nodup : legalFields.Nodup := by
  refine List.nodup_flatMap.2 ⟨fun opc _ => legalFieldsOf_nodup opc, ?_⟩
  have hopcs : listedOpcs.Nodup := by decide
  refine hopcs.imp fun {o o'} hne f hf hf' => hne ?_
  exact (mem_legalFieldsOf.1 hf).1.symm.trans (mem_legalFieldsOf.1 hf').1

theorem legalFields_length : legalFields.length = 212 := by rfl

theorem word_injective : Function.Injective OpFields.word :=
  Function.LeftInverse.injective fields_of_word

/-- Settles O10: the words of the listed fields; different fields make different words. -/
theorem legalWordsAre212 : Obligations.LegalWordsAre212 := by
  refine ⟨legalFields.map OpFields.word, legalFields_nodup.map word_injective, ?_, fun w => ?_⟩
  · rw [List.length_map, legalFields_length]
  · rw [legalWord, ← mem_legalFields_iff, List.mem_map]
    simp only [← ofWord_eq_iff, eq_comm, exists_eq_right]

/-! The decoder against the legal words (30_encoding.md R64, R70). -/

theorem legal_fields (i : Instr) : (Instr.fields i).legal = true := by cases i <;> rfl

/-- The decoder's tables have an entry for each of the 212 legal fields. -/
theorem exists_decodeFields_of_legal {f : OpFields} (h : f.legal = true) : ∃ i, decodeFields f = .ok i := by
  have htable : ∀ g ∈ legalFields, (decodeFields g).toBool = true := by decide +kernel
  have hf := htable f ((mem_legalFields_iff f).2 h)
  cases hd : decodeFields f with
  | ok i => exact ⟨i, rfl⟩
  | error e => simp [hd, Except.toBool] at hf

/-- Settles O9: an instruction's fields are legal, and the tables have an entry for all legal fields. -/
theorem decodeSucceedsExactlyOnLegalWords : Obligations.DecodeSucceedsExactlyOnLegalWords := by
  refine fun w => ⟨fun ⟨i, hi⟩ => ?_, exists_decodeFields_of_legal⟩
  rw [legalWord, fields_of_decodeFields hi]
  exact legal_fields i

/-- Settles O7: a word that is not legal decodes to no instruction, so its step raises IllegalOp. -/
theorem reservedWordRaisesIllegalOp : Obligations.ReservedWordRaisesIllegalOp := by
  intro s hr hv hw
  have hdec : ¬ ∃ i, decodeWord s.ports.op = .ok i := by
    rw [decodeSucceedsExactlyOnLegalWords, hw]
    exact Bool.false_ne_true
  cases hd : decodeWord s.ports.op with
  | ok i => exact absurd ⟨i, hd⟩ hdec
  | error e =>
    exact ⟨_, step_of_reserved s e hr hv hd, present_resValid _, present_resTag _, present_resData _, present_resErr _⟩

end Sys2Proof
end

section
/-! PROOFS. Index words (30_encoding.md R68, R69, R74): the indices SWIZZLE and SHUFFLE find in a word the host built.

An index word is read back byte by byte. So a word written from a function of the lane makes SWIZZLE and SHUFFLE answer
the lanes the function names, which is how each pseudo-operation is proved; and a bad index argument is found out of
range. -/
namespace Sys2Proof.Machine

/-! Reading an index word back. -/

theorem laneIndex_indexWord (bytes : List Byte) {k : Nat} (hk : k < 16) :
    laneIndex (indexWord bytes) k = (bytes.getD k 0#8).toNat := by
  rw [laneIndex, dataByte, indexWord, lane_vec 8 _ 16 k hk (Nat.le_refl 128)]

/-- Every shape's indices fit the sixteen bytes of an index word. -/
theorem shapeLanes_le_sixteen (sh : Shape) : shapeLanes sh ≤ 16 := by cases sh <;> decide

theorem laneIndex_lanesIndex {sh : Shape} (f : Nat → Nat) {k : Nat} (hk : k < shapeLanes sh) (hf : f k < 256) :
    laneIndex (lanesIndex sh f) k = f k := by
  have hlanes := shapeLanes_le_sixteen sh
  rw [lanesIndex, laneIndex_indexWord _ (by omega), List.getD_eq_getElem _ _ (by simpa using hk)]
  simp [Nat.mod_eq_of_lt hf]

theorem laneIndex_encodeIndices (args : List IndexArg) {k : Nat} (hk : k < 16) (hlen : k < args.length) :
    laneIndex (encodeIndices args) k = (encodeIndex args[k]).toNat := by
  rw [encodeIndices, laneIndex_indexWord _ hk, List.getD_eq_getElem _ _ (by simpa using hlen), List.getElem_map]

/-! SWIZZLE and SHUFFLE of a shape. -/

theorem exec_swizzleInstr (sh : Shape) (s : State) : exec (swizzleInstr sh) s = .next (s.swizzle sh) := by
  cases sh <;> rfl

theorem exec_shuffleInstr (sh : Shape) (s : State) : exec (shuffleInstr sh) s = .next (s.shuffle sh) := by
  cases sh <;> rfl

/-- An index word written from a function holds the function's values, if they fit a byte. -/
theorem indices_of_lanesIndex {sh : Shape} {s : State} {f : Nat → Nat} {limit : Nat}
    (hidx : s.ports.idx = lanesIndex sh f) (hf : ∀ k, k < shapeLanes sh → f k < limit) (hlimit : limit ≤ 256) :
    IndicesBelow s sh limit ∧ ∀ k, k < shapeLanes sh → laneIndex s.ports.idx k = f k := by
  have hread : ∀ k, k < shapeLanes sh → laneIndex s.ports.idx k = f k := fun k hk => by
    rw [hidx, laneIndex_lanesIndex f hk ((hf k hk).trans_le hlimit)]
  exact ⟨fun k hk => (hread k hk).trans_lt (hf k hk), hread⟩

/-- SWIZZLE under an index word written from a function answers the lanes the function names. -/
theorem swizzle_deliversLanes {sh : Shape} {s : State} {f : Nat → Nat} (h : ReadyA s sh)
    (hidx : s.ports.idx = lanesIndex sh f) (hf : ∀ k, k < shapeLanes sh → f k < shapeLanes sh) :
    DeliversLanes (swizzleInstr sh) s sh fun k => laneA s sh (f k) := by
  have hlanes := shapeLanes_le_sixteen sh
  obtain ⟨hbelow, hread⟩ := indices_of_lanesIndex hidx hf (by omega)
  obtain ⟨hdel, hres⟩ := swizzle_spec s sh h hbelow
  exact ⟨_, exec_swizzleInstr sh s, hdel, fun k hk => (hres k hk).trans (congrArg _ (hread k hk))⟩

/-- SHUFFLE under an index word written from a function answers the lanes the function names. -/
theorem shuffle_deliversLanes {sh : Shape} {s : State} {f : Nat → Nat} (h : ReadyAB s sh)
    (hidx : s.ports.idx = lanesIndex sh f) (hf : ∀ k, k < shapeLanes sh → f k < 2 * shapeLanes sh) :
    DeliversLanes (shuffleInstr sh) s sh fun k => shuffleLane sh s.ports.a.data s.ports.b.data (f k) := by
  have hlanes := shapeLanes_le_sixteen sh
  obtain ⟨hbelow, hread⟩ := indices_of_lanesIndex hidx hf (by omega)
  obtain ⟨hdel, hres⟩ := shuffle_spec s sh h hbelow
  exact ⟨_, exec_shuffleInstr sh s, hdel, fun k hk => (hres k hk).trans (congrArg _ (hread k hk))⟩

/-- A result with all the lanes of a word is the word. -/
theorem DeliversLanes.deliversData {i : Instr} {s : State} {sh : Shape} {d : Data}
    (h : DeliversLanes i s sh fun k => lane (shapeWidth sh) d k) : DeliversData i s sh d := by
  obtain ⟨t, ht, hdel, hlanes⟩ := h
  exact ⟨t, ht, hdel, data_eq_of_lanes _ _ (shapeWidth_pos sh) (shapeWidth_mul_shapeLanes sh) _ _ hlanes⟩

theorem DeliversLanes.congr {i : Instr} {s : State} {sh : Shape} {f g : Nat → BitVec (shapeWidth sh)}
    (h : DeliversLanes i s sh f) (hfg : ∀ k, k < shapeLanes sh → f k = g k) : DeliversLanes i s sh g := by
  obtain ⟨t, ht, hdel, hlanes⟩ := h
  exact ⟨t, ht, hdel, fun k hk => (hlanes k hk).trans (hfg k hk)⟩

/-- Settles O47: each expansion is a SWIZZLE or SHUFFLE under the index word of a function. -/
theorem pseudoOperationsExpand : Obligations.PseudoOperationsExpand := by
  refine fun sh s => ⟨fun h hidx => ?mov, fun h j hj hidx => ?bcast, fun h hidx => ?rev, fun h hidx => ?ziplo⟩
  case mov => exact (swizzle_deliversLanes h hidx fun _ hk => hk).deliversData
  case bcast => exact swizzle_deliversLanes h hidx fun _ _ => hj
  case rev => exact swizzle_deliversLanes h hidx fun k hk => by omega
  case ziplo =>
    refine (shuffle_deliversLanes h hidx fun k hk => by split <;> omega).congr fun k hk => ?_
    by_cases hpar : k % 2 = 0
    · have hlt : k / 2 < shapeLanes sh := by omega
      simp [hpar, shuffleLane, hlt, laneA]
    · simp [hpar, shuffleLane, laneB]

/-! Bad index arguments (30_encoding.md R69, 45_rearrange.md R150). -/

/-- The byte written for an argument that is no integer below the limit is at or above the limit. -/
theorem le_encodeIndex {x : IndexArg} {limit : Nat} (hlimit : limit ≤ 255)
    (hx : ∀ n : Int, x = .int n → ¬ (0 ≤ n ∧ n < limit)) : limit ≤ (encodeIndex x).toNat := by
  cases x with
  | notInteger => exact hlimit
  | int n =>
    have hn := hx n rfl
    simp only [encodeIndex]
    split
    next hbyte => rw [BitVec.toNat_ofInt]; omega
    next => exact hlimit

/-- A bad argument makes the index check fail. -/
theorem rangeFault_encodeIndices {sh : Shape} {args : List IndexArg} {limit : Nat} (hlimit : limit ≤ 255)
    (hlen : args.length = shapeLanes sh) (hbad : ∃ x ∈ args, ∀ n : Int, x = .int n → ¬ (0 ≤ n ∧ n < limit)) :
    rangeFault (shapeLanes sh) limit (encodeIndices args) = true := by
  obtain ⟨x, hmem, hx⟩ := hbad
  obtain ⟨k, hk, rfl⟩ := List.mem_iff_getElem.1 hmem
  have hlanes := shapeLanes_le_sixteen sh
  refine (rangeFault_eq_true_iff _ _ _).2 ⟨k, by omega, ?_⟩
  rw [laneIndex_encodeIndices args (by omega) hk]
  exact le_encodeIndex hlimit hx

/-- Settles O48: the byte of the bad argument is above the limit, so the index check fails once the ports pass. -/
theorem badIndexArgumentRaisesRangeError : Obligations.BadIndexArgumentRaisesRangeError := by
  intro sh s args hlen hidx
  have hlanes := shapeLanes_le_sixteen sh
  refine ⟨fun ha hbad => ⟨_, exec_swizzleInstr sh s, ?_⟩, fun hab hbad => ⟨_, exec_shuffleInstr sh s, ?_⟩⟩
  · obtain ⟨hty, hsh⟩ := checks_one _ _ ha
    rw [State.swizzle, hidx, rangeFault_encodeIndices (by omega) hlen hbad, issue_of_range _ _ _ hty hsh]
    exact raiseError_raised s .rangeError
  · obtain ⟨hty, hsh⟩ := checks_two _ _ _ hab.1 hab.2
    rw [State.shuffle, hidx, rangeFault_encodeIndices (by omega) hlen (by exact_mod_cast hbad),
      issue_of_range _ _ _ hty hsh]
    exact raiseError_raised s .rangeError

end Sys2Proof.Machine
end

section
/-! PROOFS. Unread ports and index bytes (30_encoding.md R65, R67, R68): what a result depends on.

Each operand form writes a result that is a function of the ports it names, and of the index bytes of its lanes if it
permutes. An instruction's form names no more ports than `requiredTags` lists for it, so two states that agree on the
ports the instruction reads are given the same result. -/
namespace Sys2Proof.Machine

/-! The ports that are read. -/

/-- Every instruction reads a port. -/
theorem requiredTags_length_pos (i : Instr) : 0 < (requiredTags i).length := by
  unfold requiredTags
  split <;> exact Nat.zero_lt_succ _

section
variable {i : Instr} {s s' : State}

/-- Port A is the first port read, by every instruction. -/
theorem portA_eq_of_portsRead_eq (h : portsRead i s = portsRead i s') : s.ports.a = s'.ports.a := by
  have hget := congrArg (fun l => l[0]?.map ReadPort.value) h
  simpa [portsRead, List.getElem?_zipWith, requiredTags_length_pos i] using hget

theorem portB_eq_of_portsRead_eq (h : portsRead i s = portsRead i s') (hlen : 1 < (requiredTags i).length) :
    s.ports.b = s'.ports.b := by
  have hget := congrArg (fun l => l[1]?.map ReadPort.value) h
  simpa [portsRead, List.getElem?_zipWith, hlen] using hget

theorem portC_eq_of_portsRead_eq (h : portsRead i s = portsRead i s') (hlen : 2 < (requiredTags i).length) :
    s.ports.c = s'.ports.c := by
  have hget := congrArg (fun l => l[2]?.map ReadPort.value) h
  simpa [portsRead, List.getElem?_zipWith, hlen] using hget

end

/-! The index bytes that are read. -/

theorem vec_congr {w : Nat} {f g : Nat → BitVec w} {n : Nat} (h : ∀ k, k < n → f k = g k) : vec w f n = vec w g n := by
  induction n with
  | zero => rfl
  | succ n ih => rw [vec, vec, ih fun k hk => h k (by omega), h n (by omega)]

theorem rangeFault_congr {n : Nat} {x y : Data} (limit : Nat)
    (h : ∀ k, k < n → laneIndex x k = laneIndex y k) : rangeFault n limit x = rangeFault n limit y := by
  rw [Bool.eq_iff_iff, rangeFault_eq_true_iff, rangeFault_eq_true_iff]
  exact exists_congr fun k => and_congr_right fun hk => by rw [h k hk]

/-! Each operand form gives the same result to states that agree on its inputs. -/

/-- The meaning answers next states with the same result register from the two states. -/
def SameAnswers (m : State → Host.Outcome State Fault Refusal) (s s' : State) : Prop :=
  ∃ t t', m s = .next t ∧ m s' = .next t' ∧ SameResult t t'

section
variable {s s' : State}

theorem issue_sameAnswers {ps : State → List ReadPort} {r : State → Bool} {v : State → Value}
    (hps : ps s = ps s') (hr : r s = r s') (hv : v s = v s') :
    SameAnswers (fun s => .next (s.issue (ps s) (r s) (v s))) s s' := by
  refine ⟨_, _, rfl, rfl, ?_⟩
  rw [hps, hr, hv, issue_eq_record, issue_eq_record]
  exact sameResult_record s s' _

theorem unary_sameAnswers (sh : Shape) (f : BitVec (shapeWidth sh) → BitVec (shapeWidth sh))
    (ha : s.ports.a = s'.ports.a) : SameAnswers (fun s => .next (s.unary sh f)) s s' :=
  issue_sameAnswers (by rw [ha]) rfl (by rw [ha])

theorem binary_sameAnswers (sh : Shape)
    (f : BitVec (shapeWidth sh) → BitVec (shapeWidth sh) → BitVec (shapeWidth sh))
    (ha : s.ports.a = s'.ports.a) (hb : s.ports.b = s'.ports.b) :
    SameAnswers (fun s => .next (s.binary sh f)) s s' :=
  issue_sameAnswers (by rw [ha, hb]) rfl (by rw [ha, hb])

theorem ternary_sameAnswers (sh : Shape)
    (f : BitVec (shapeWidth sh) → BitVec (shapeWidth sh) → BitVec (shapeWidth sh) → BitVec (shapeWidth sh))
    (ha : s.ports.a = s'.ports.a) (hb : s.ports.b = s'.ports.b) (hc : s.ports.c = s'.ports.c) :
    SameAnswers (fun s => .next (s.ternary sh f)) s s' :=
  issue_sameAnswers (by rw [ha, hb, hc]) rfl (by rw [ha, hb, hc])

theorem unaryWord_sameAnswers (sh : Shape) (f : Data → Data) (ha : s.ports.a = s'.ports.a) :
    SameAnswers (fun s => .next (s.unaryWord sh f)) s s' :=
  issue_sameAnswers (by rw [ha]) rfl (by rw [ha])

theorem binaryWord_sameAnswers (sh : Shape) (f : Data → Data → Data) (ha : s.ports.a = s'.ports.a)
    (hb : s.ports.b = s'.ports.b) : SameAnswers (fun s => .next (s.binaryWord sh f)) s s' :=
  issue_sameAnswers (by rw [ha, hb]) rfl (by rw [ha, hb])

theorem compare_sameAnswers (sh : Shape) (P : BitVec (shapeWidth sh) → BitVec (shapeWidth sh) → Bool)
    (ha : s.ports.a = s'.ports.a) (hb : s.ports.b = s'.ports.b) :
    SameAnswers (fun s => .next (s.compare sh P)) s s' :=
  issue_sameAnswers (by rw [ha, hb]) rfl (by rw [ha, hb])

/-- SWIZZLE looks at the index bytes of its lanes, for the check and for the result (45_rearrange.md R150, R151). -/
theorem swizzle_sameAnswers (sh : Shape) (ha : s.ports.a = s'.ports.a)
    (hidx : ∀ k, k < shapeLanes sh → laneIndex s.ports.idx k = laneIndex s'.ports.idx k) :
    SameAnswers (fun s => .next (s.swizzle sh)) s s' := by
  refine issue_sameAnswers (by rw [ha]) (rangeFault_congr _ hidx) ?_
  rw [ha, vec_congr fun k hk => by rw [hidx k hk]]

/-- SHUFFLE looks at the index bytes of its lanes (45_rearrange.md R150, R152). -/
theorem shuffle_sameAnswers (sh : Shape) (ha : s.ports.a = s'.ports.a) (hb : s.ports.b = s'.ports.b)
    (hidx : ∀ k, k < shapeLanes sh → laneIndex s.ports.idx k = laneIndex s'.ports.idx k) :
    SameAnswers (fun s => .next (s.shuffle sh)) s s' := by
  refine issue_sameAnswers (by rw [ha, hb]) (rangeFault_congr _ hidx) ?_
  rw [ha, hb, vec_congr fun k hk => by rw [hidx k hk]]

theorem select_sameAnswers (sh : Shape) (ha : s.ports.a = s'.ports.a) (hb : s.ports.b = s'.ports.b)
    (hc : s.ports.c = s'.ports.c) : SameAnswers (fun s => .next (s.select sh)) s s' :=
  issue_sameAnswers (by rw [ha, hb, hc]) rfl (by rw [ha, hb, hc])

theorem bitSelect_sameAnswers (sh : Shape) (ha : s.ports.a = s'.ports.a) (hb : s.ports.b = s'.ports.b)
    (hc : s.ports.c = s'.ports.c) : SameAnswers (fun s => .next (s.bitSelect sh)) s s' :=
  issue_sameAnswers (by rw [ha, hb, hc]) rfl (by rw [ha, hb, hc])

theorem convert_sameAnswers (dst src : Shape) (conv : BitVec (shapeWidth src) → BitVec (shapeWidth dst))
    (ha : s.ports.a = s'.ports.a) : SameAnswers (fun s => .next (s.convert dst src conv)) s s' :=
  issue_sameAnswers (by rw [ha]) rfl (by rw [ha])

theorem retag_sameAnswers (dst src : Shape) (ha : s.ports.a = s'.ports.a) :
    SameAnswers (fun s => .next (s.retag dst src)) s s' :=
  issue_sameAnswers (by rw [ha]) rfl (by rw [ha])

/-- CHECK makes its own check of port A, apart from those of an issue (40_issue_and_check.md R85). -/
theorem check_sameAnswers (sh : Shape) (ha : s.ports.a = s'.ports.a) :
    SameAnswers (fun s => .next (s.check sh)) s s' := by
  refine ⟨_, _, rfl, rfl, ?_⟩
  by_cases h : ReadyA s sh
  · have h' : ReadyA s' sh := by rwa [ReadyA, ← ha]
    rw [check_of_ready h, check_of_ready h', ha]
    exact sameResult_record s s' (.ok _)
  · have h' : ¬ ReadyA s' sh := by rwa [ReadyA, ← ha]
    rw [check_of_not_ready h, check_of_not_ready h']
    exact sameResult_record s s' (.error _)

end

/-! The statement. -/

/-- States that agree on what an instruction reads are given the same result, by its operand form. -/
theorem exec_sameAnswers (i : Instr) {s s' : State} (h : portsRead i s = portsRead i s')
    (hidx : indexLimit i ≠ none → ∀ k, k < shapeLanes (Instr.shape i) →
      laneIndex s.ports.idx k = laneIndex s'.ports.idx k) : SameAnswers (exec i) s s' := by
  have ha := portA_eq_of_portsRead_eq h
  cases i with
  | addF64x2 | addF32x4 | addI32x4 | addI16x8 | addI8x16 | subF64x2 | subF32x4 | subI32x4 | subI16x8 | subI8x16
  | mulF64x2 | mulF32x4 | mulI32x4 | mulI16x8 | mulI8x16 | divF64x2 | divF32x4 | divI32x4 | divI16x8 | divI8x16
  | minF64x2 | minF32x4 | minI32x4 | minI16x8 | minI8x16 | maxF64x2 | maxF32x4 | maxI32x4 | maxI16x8 | maxI8x16
  | minnumF64x2 | minnumF32x4 | maxnumF64x2 | maxnumF32x4 =>
    exact binary_sameAnswers _ _ ha (portB_eq_of_portsRead_eq h (by decide))
  | absF64x2 | absF32x4 | absI32x4 | absI16x8 | absI8x16 | negF64x2 | negF32x4 | negI32x4 | negI16x8 | negI8x16
  | sqrtF64x2 | sqrtF32x4 | rcpaF64x2 | rcpaF32x4 | rsqaF64x2 | rsqaF32x4 =>
    exact unary_sameAnswers _ _ ha
  | clampF64x2 | clampF32x4 | clampI32x4 | clampI16x8 | clampI8x16 =>
    exact ternary_sameAnswers _ _ ha (portB_eq_of_portsRead_eq h (by decide)) (portC_eq_of_portsRead_eq h (by decide))
  | andF64x2 | andF32x4 | andI32x4 | andI16x8 | andI8x16 | andM64x2 | andM32x4 | andM16x8 | andM8x16 | orF64x2
  | orF32x4 | orI32x4 | orI16x8 | orI8x16 | orM64x2 | orM32x4 | orM16x8 | orM8x16 | xorF64x2 | xorF32x4
  | xorI32x4 | xorI16x8 | xorI8x16 | xorM64x2 | xorM32x4 | xorM16x8 | xorM8x16 =>
    exact binaryWord_sameAnswers _ _ ha (portB_eq_of_portsRead_eq h (by decide))
  | notF64x2 | notF32x4 | notI32x4 | notI16x8 | notI8x16 | notM64x2 | notM32x4 | notM16x8 | notM8x16 =>
    exact unaryWord_sameAnswers _ _ ha
  | ltF64x2 | ltF32x4 | ltI32x4 | ltI16x8 | ltI8x16 | leF64x2 | leF32x4 | leI32x4 | leI16x8 | leI8x16 | eqF64x2
  | eqF32x4 | eqI32x4 | eqI16x8 | eqI8x16 | neF64x2 | neF32x4 | neI32x4 | neI16x8 | neI8x16 | gtF64x2 | gtF32x4
  | gtI32x4 | gtI16x8 | gtI8x16 | geF64x2 | geF32x4 | geI32x4 | geI16x8 | geI8x16 =>
    exact compare_sameAnswers _ _ ha (portB_eq_of_portsRead_eq h (by decide))
  | swizzleF64x2 | swizzleF32x4 | swizzleI32x4 | swizzleI16x8 | swizzleI8x16 | swizzleM64x2 | swizzleM32x4
  | swizzleM16x8 | swizzleM8x16 =>
    exact swizzle_sameAnswers _ ha (hidx (by decide))
  | shuffleF64x2 | shuffleF32x4 | shuffleI32x4 | shuffleI16x8 | shuffleI8x16 | shuffleM64x2 | shuffleM32x4
  | shuffleM16x8 | shuffleM8x16 =>
    exact shuffle_sameAnswers _ ha (portB_eq_of_portsRead_eq h (by decide)) (hidx (by decide))
  | selectF64x2 | selectF32x4 | selectI32x4 | selectI16x8 | selectI8x16 | selectM64x2 | selectM32x4
  | selectM16x8 | selectM8x16 =>
    exact select_sameAnswers _ ha (portB_eq_of_portsRead_eq h (by decide)) (portC_eq_of_portsRead_eq h (by decide))
  | bitselectF64x2 | bitselectF32x4 | bitselectI32x4 | bitselectI16x8 | bitselectI8x16 =>
    exact bitSelect_sameAnswers _ ha (portB_eq_of_portsRead_eq h (by decide)) (portC_eq_of_portsRead_eq h (by decide))
  | cvtF64x2F32x4 | cvtF64x2I32x4 | cvtF64x2I16x8 | cvtF64x2I8x16 | cvtF32x4F64x2 | cvtF32x4I32x4
  | cvtF32x4I16x8 | cvtF32x4I8x16 | cvtI32x4F64x2 | cvtI32x4F32x4 | cvtI32x4I16x8 | cvtI32x4I8x16
  | cvtI16x8F64x2 | cvtI16x8F32x4 | cvtI16x8I32x4 | cvtI16x8I8x16 | cvtI8x16F64x2 | cvtI8x16F32x4
  | cvtI8x16I32x4 | cvtI8x16I16x8 =>
    exact convert_sameAnswers _ _ _ ha
  | cvtF64x2F64x2 | cvtF32x4F32x4 | cvtI32x4I32x4 | cvtI16x8I16x8 | cvtI8x16I8x16 | bitcastF64x2F64x2
  | bitcastF64x2F32x4 | bitcastF64x2I32x4 | bitcastF64x2I16x8 | bitcastF64x2I8x16 | bitcastF32x4F64x2
  | bitcastF32x4F32x4 | bitcastF32x4I32x4 | bitcastF32x4I16x8 | bitcastF32x4I8x16 | bitcastI32x4F64x2
  | bitcastI32x4F32x4 | bitcastI32x4I32x4 | bitcastI32x4I16x8 | bitcastI32x4I8x16 | bitcastI16x8F64x2
  | bitcastI16x8F32x4 | bitcastI16x8I32x4 | bitcastI16x8I16x8 | bitcastI16x8I8x16 | bitcastI8x16F64x2
  | bitcastI8x16F32x4 | bitcastI8x16I32x4 | bitcastI8x16I16x8 | bitcastI8x16I8x16 =>
    exact retag_sameAnswers _ _ ha
  | checkF64x2 | checkF32x4 | checkI32x4 | checkI16x8 | checkI8x16 | checkM64x2 | checkM32x4 | checkM16x8
  | checkM8x16 =>
    exact check_sameAnswers _ ha

/-- Settles O20: the results of `exec` are those `exec_sameAnswers` compares. -/
theorem unreadPortsAreIgnored : Obligations.UnreadPortsAreIgnored := by
  intro i s s' t t' h hidx ht ht'
  obtain ⟨u, u', hu, hu', hsame⟩ := exec_sameAnswers i h hidx
  cases hu.symm.trans ht
  cases hu'.symm.trans ht'
  exact hsame

end Sys2Proof.Machine
end

section
/-! PROOFS. Issue and check (40_issue_and_check.md R80 to R86): what an issue answers, by the checks of its operands.

Every operation but CHECK is one issue under the checks, of the ports, the index check and the result tag that the rules
list for it (`exec_eq_issue`); CHECK makes a check of its own (`exec_eq_check`). So each error condition, written from
the rules, is one of the machine's checks failing, and the statements are the branches of the issue and of CHECK. -/
namespace Sys2Proof.Machine

/-! Each instruction is an issue of what it reads, or CHECK of its shape. -/

/-- The index check of an instruction: none, or that of its lanes against its limit (45_rearrange.md R150). -/
def indexFault (i : Instr) (s : State) : Bool :=
  (indexLimit i).any fun limit => rangeFault (shapeLanes (Instr.shape i)) limit s.ports.idx

theorem exec_eq_check {i : Instr} (h : Instr.opc i = .check) (s : State) :
    exec i s = .next (s.check (Instr.shape i)) := by
  cases i with
  | checkF64x2 | checkF32x4 | checkI32x4 | checkI16x8 | checkI8x16 | checkM64x2 | checkM32x4 | checkM16x8
  | checkM8x16 => rfl
  | _ => exact absurd h (by decide)

/-- The tables of the rules for an instruction's read ports, index limit and result tag are those of its operand form
(30_encoding.md R65, 45_rearrange.md R150). -/
theorem exec_eq_issue {i : Instr} (h : Instr.opc i ≠ .check) (s : State) :
    ∃ v : Value, exec i s = .next (s.issue (portsRead i s) (indexFault i s) v) ∧ v.tag = resultTag i := by
  cases i with
  | checkF64x2 | checkF32x4 | checkI32x4 | checkI16x8 | checkI8x16 | checkM64x2 | checkM32x4 | checkM16x8
  | checkM8x16 => exact absurd rfl h
  | _ => exact ⟨_, rfl, rfl⟩

/-! CHECK reads port A, and no tag is required of it (40_issue_and_check.md R84, R85). -/

section
variable {i : Instr} (h : Instr.opc i = .check) (s : State)
include h

theorem portsRead_of_check : portsRead i s = [needAny s.ports.a] := by
  simp [portsRead, requiredTags, h, needAny]

theorem resultTag_of_check : resultTag i = Shape.tag (Instr.shape i) := by
  simp [resultTag, h]

theorem typeMismatchHolds_iff_of_check : TypeMismatchHolds i s ↔ ¬ ReadyA s (Instr.shape i) := by
  simp only [TypeMismatchHolds, portsRead_of_check h, List.mem_singleton, exists_eq_left, needAny, h, true_and, ReadyA,
    Holds]
  tauto

theorem not_shapeMismatchHolds_of_check : ¬ ShapeMismatchHolds i s := by
  simp [ShapeMismatchHolds, portsRead_of_check h, needAny]

theorem check_deliversData (ha : ReadyA s (Instr.shape i)) :
    DeliversData i s (Instr.shape i) s.ports.a.data := by
  refine ⟨_, exec_eq_check h s, ?_⟩
  rw [check_of_ready ha]
  exact ⟨deliver_delivered s _, rfl⟩

theorem check_raisesCode (ha : ¬ ReadyA s (Instr.shape i)) : RaisesCode i s 1#3 := by
  refine ⟨_, exec_eq_check h s, ?_⟩
  rw [check_of_not_ready ha]
  exact raiseError_raised s .typeMismatch

end

/-! The error conditions of the rules are the machine's checks. -/

theorem typeMismatchHolds_iff_of_ne_check {i : Instr} (h : Instr.opc i ≠ .check) (s : State) :
    TypeMismatchHolds i s ↔ typeFault (portsRead i s) = true := by
  simp [TypeMismatchHolds, typeFault_eq_true_iff, isValue_eq_false_iff, h]

/-- Where every read port carries a value every tag is valid, so any other tag than the required one counts
(40_issue_and_check.md R80, R84). -/
theorem shapeMismatchHolds_iff {i : Instr} {s : State} (h : ¬ TypeMismatchHolds i s) :
    ShapeMismatchHolds i s ↔ shapeFault (portsRead i s) = true := by
  have hvalid : ∀ p ∈ portsRead i s, p.value.tag ∈ tagsALL := fun p hp => by
    by_contra htag
    exact h (.inl ⟨p, hp, fun hproper => htag hproper.1⟩)
  rw [shapeFault_eq_true_iff]
  exact exists_congr fun p => and_congr_right fun hp => and_iff_right (hvalid p hp)

theorem rangeErrorHolds_iff (i : Instr) (s : State) : RangeErrorHolds i s ↔ indexFault i s = true := by
  simp only [RangeErrorHolds, indexFault, Option.any_eq_true, rangeFault_eq_true_iff]

/-! The statements. -/

/-- Settles O14: CHECK's operand is no value of its shape, or the type check of the issue, its first one, fails. -/
theorem typeMismatchLeavesNoneAndZero : Obligations.TypeMismatchLeavesNoneAndZero := by
  intro i s htype
  by_cases hc : Instr.opc i = .check
  · exact check_raisesCode hc s ((typeMismatchHolds_iff_of_check hc s).1 htype)
  · obtain ⟨v, hexec, -⟩ := exec_eq_issue hc s
    rw [issue_of_typeFault _ _ _ _ ((typeMismatchHolds_iff_of_ne_check hc s).1 htype)] at hexec
    exact ⟨_, hexec, raiseError_raised s .typeMismatch⟩

/-- Settles O15: the instruction is not CHECK, and its issue passes the type check and fails the shape check. -/
theorem shapeMismatchLeavesNoneAndZero : Obligations.ShapeMismatchLeavesNoneAndZero := by
  intro i s htype hshape
  have hc : Instr.opc i ≠ .check := fun hc => not_shapeMismatchHolds_of_check hc s hshape
  have hty : typeFault (portsRead i s) = false := by
    rwa [typeMismatchHolds_iff_of_ne_check hc, Bool.not_eq_true] at htype
  obtain ⟨v, hexec, -⟩ := exec_eq_issue hc s
  rw [issue_of_shapeFault _ _ _ _ hty ((shapeMismatchHolds_iff htype).1 hshape)] at hexec
  exact ⟨_, hexec, raiseError_raised s .shapeMismatch⟩

/-- Settles O17: CHECK's operand is a value of its shape, or the issue passes its three checks. -/
theorem readyOperationDelivers : Obligations.ReadyOperationDelivers := by
  intro i s htype hshape hrange
  by_cases hc : Instr.opc i = .check
  · rw [typeMismatchHolds_iff_of_check hc, not_not] at htype
    obtain ⟨t, hexec, hdel, -⟩ := check_deliversData hc s htype
    exact ⟨t, hexec, (resultTag_of_check hc).symm ▸ hdel⟩
  · rw [shapeMismatchHolds_iff htype, Bool.not_eq_true] at hshape
    rw [typeMismatchHolds_iff_of_ne_check hc, Bool.not_eq_true] at htype
    rw [rangeErrorHolds_iff, Bool.not_eq_true] at hrange
    obtain ⟨v, hexec, htag⟩ := exec_eq_issue hc s
    rw [hrange, issue_of_passed _ _ _ htype hshape] at hexec
    exact ⟨_, hexec, htag ▸ deliver_delivered s v⟩

theorem record_sameInputs (s : State) (a : Except OpError Value) : SameInputs s (s.record a) := by
  cases a <;> exact ⟨rfl, rfl⟩

/-- Settles O18: `exec` records in the result register an answer that the ports decide. -/
theorem operationsWriteOnlyResultRegister : Obligations.OperationsWriteOnlyResultRegister := by
  intro i s t ht
  obtain ⟨a, -, hexec⟩ := exec_answersProper i s
  cases (hexec s rfl).symm.trans ht
  refine ⟨record_sameInputs s a, fun s' t' hports ht' => ?_⟩
  cases (hexec s' hports).symm.trans ht'
  exact sameResult_record s s' a

/-- Settles O58: the nine instructions are the CHECK of their shapes, which delivers exactly where port A is ready. -/
theorem checkPassesOnlyItsShape : Obligations.CheckPassesOnlyItsShape := by
  intro e he s
  obtain ⟨hc, hsh⟩ : Instr.opc e.2 = .check ∧ Instr.shape e.2 = e.1 := by
    revert e
    decide
  rw [← hsh]
  exact ⟨check_deliversData hc s, check_raisesCode hc s⟩

/-- Settles O3: an idle step clears `RES_VALID`, and presenting the host's next inputs writes no result field. -/
theorem idleStepClearsOnlyValid : Obligations.IdleStepClearsOnlyValid := by
  intro s hr hv
  exact ⟨_, step_of_idle s hr hv, by simp⟩

/-- Settles O4: `exec` always answers a next state, and the step presents the host's next inputs in it. -/
theorem stepRunsDecodedInstruction : Obligations.StepRunsDecodedInstruction := by
  intro s i hr hv hd
  obtain ⟨a, -, hexec⟩ := exec_answersProper i s
  have ht := hexec s rfl
  refine ⟨_, _, ht, step_of_decoded s i _ hr hv hd ht, by simp [SameResult], present_cons _, fun hnil => ?_⟩
  rw [present_nil _ hnil]
  exact ⟨rfl, hnil⟩

end Sys2Proof.Machine
end

section
/-! PROOFS. Values that a format holds exactly (00_scope.md R9, R10).

A magnitude of at most `2^(fracBits + 1)` quanta `2^q` is the magnitude of a pattern, a finite one when it is below the
infinity read as a value, and rounding leaves it as it is. So the integers of up to `fracBits + 1` bits, and the finite
values of a narrower format, are converted without rounding. -/
namespace Sys2Proof.Machine

/-- Rounding leaves the value of a pattern as it is. -/
theorem roundPattern_patternMag (fmt : FloatFormat) (hf : 0 < fmt.fracBits) {p d : Nat} (hd : 0 < d)
    (hp : p ≤ infPattern fmt) : roundPattern fmt (patternMag fmt p * d) d = p := by
  have hdq : (d : ℚ) ≠ 0 := by exact_mod_cast hd.ne'
  have hnear := (unboundedPattern_nearest fmt hf (patternMag fmt p * d) d hd p).1
  rw [Nat.cast_mul, mul_div_cancel_right₀ _ hdq, sub_self, abs_zero, abs_nonpos_iff, sub_eq_zero, Nat.cast_inj] at hnear
  rw [roundPattern_eq_min, (patternMag_strictMono fmt).injective hnear, min_eq_right hp]

/-- Every number of at most `2^(fracBits + 1)` quanta is the magnitude of a pattern: below `2^fracBits` quanta it is
twice as many of the next smaller quantum. -/
theorem exists_patternMag_eq (fmt : FloatFormat) (q : Nat) :
    ∀ k, k ≤ 2 * 2 ^ fmt.fracBits → ∃ p, patternMag fmt p = k * 2 ^ q := by
  induction q with
  | zero => exact fun k hk => ⟨_, patternMag_scaled fmt 0 k hk (.inl rfl)⟩
  | succ q ih =>
    intro k hk
    rcases Nat.lt_or_ge k (2 ^ fmt.fracBits) with hlt | hge
    · obtain ⟨p, hp⟩ := ih (2 * k) (by omega)
      exact ⟨p, by rw [hp]; ring⟩
    · exact ⟨_, patternMag_scaled fmt (q + 1) k hk (.inr hge)⟩

/-- The infinity read as a value is `2^(maxExp + 1)`. -/
theorem patternMag_infPattern (fmt : FloatFormat) (he : 2 ≤ fmt.expBits) :
    patternMag fmt (infPattern fmt) = 2 ^ (unitExp fmt + 2 ^ (fmt.expBits - 1)) := by
  obtain ⟨m, hm⟩ : ∃ m, 2 ^ (fmt.expBits - 1) = m + 2 := Nat.exists_eq_add_of_le' (Nat.le_self_pow (by omega) 2)
  have hinf : infPattern fmt = (2 * m + 1) * 2 ^ fmt.fracBits + 2 * 2 ^ fmt.fracBits := by
    rw [infPattern, ← mul_pow_sub_one (by omega : fmt.expBits ≠ 0), hm, ← Nat.add_mul]
    congr 1
  have hF := Nat.two_pow_pos fmt.fracBits
  rw [hinf, patternMag_scaled fmt _ _ le_rfl (.inr (by omega)), unitExp, hm, Nat.add_sub_cancel]
  ring

/-- A number of at most `2^(fracBits + 1)` quanta that is below the infinity is the magnitude of a finite pattern. -/
theorem exists_finitePattern (fmt : FloatFormat) {q k : Nat} (hk : k ≤ 2 * 2 ^ fmt.fracBits)
    (hlt : k * 2 ^ q < patternMag fmt (infPattern fmt)) : ∃ p, p < infPattern fmt ∧ patternMag fmt p = k * 2 ^ q := by
  obtain ⟨p, hp⟩ := exists_patternMag_eq fmt q k hk
  exact ⟨p, (patternMag_strictMono fmt).lt_iff_lt.1 (hp ▸ hlt), hp⟩

/-- A finite value is the magnitude of a pattern below the infinity: its exponent field is not all ones. -/
theorem exists_finitePattern_of_fval_fin {fmt : FloatFormat} {w : Nat} {y : BitVec w} {s : Bool} {m : Nat}
    (h : fval fmt y = .fin s m) : ∃ p, p < infPattern fmt ∧ patternMag fmt p = m := by
  have hF := Nat.two_pow_pos fmt.fracBits
  have hfrac := Nat.mod_lt y.toNat hF
  have hexp := Nat.mod_lt (y.toNat / 2 ^ fmt.fracBits) (Nat.two_pow_pos fmt.expBits)
  simp only [fval] at h
  split at h
  next => split at h <;> cases h
  next hne =>
  injection h with _ hm
  generalize y.toNat % 2 ^ fmt.fracBits = frac at *
  generalize y.toNat / 2 ^ fmt.fracBits % 2 ^ fmt.expBits = expField at *
  refine ⟨2 ^ fmt.fracBits * expField + frac, ?_, ?_⟩
  · calc 2 ^ fmt.fracBits * expField + frac < 2 ^ fmt.fracBits * (expField + 1) := by rw [Nat.mul_succ]; omega
      _ ≤ 2 ^ fmt.fracBits * (2 ^ fmt.expBits - 1) := Nat.mul_le_mul_left _ (by omega)
      _ = infPattern fmt := Nat.mul_comm _ _
  · rw [patternMag, Nat.mul_add_div hF, Nat.mul_add_mod, Nat.div_eq_of_lt hfrac, Nat.mod_eq_of_lt hfrac, Nat.add_zero, hm]

/-- The formats in which every integer of up to `fracBits + 1` bits is below the infinity. -/
theorem floatFormats_fracBits_lt {f : FloatFormat × Nat} (h : f ∈ floatFormats) :
    f.1.fracBits + 1 < 2 ^ (f.1.expBits - 1) := by
  revert f; decide

/-- An integer of up to `fracBits + 1` bits is a finite value of the format. -/
theorem exists_finitePattern_of_nat {f : FloatFormat × Nat} (hf : f ∈ floatFormats) {k : Nat}
    (hk : k ≤ 2 ^ (f.1.fracBits + 1)) :
    ∃ p, p < infPattern f.1 ∧ patternMag f.1 p = k * 2 ^ unitExp f.1 := by
  refine exists_finitePattern f.1 (by rwa [← pow_succ']) ?_
  rw [patternMag_infPattern f.1 (floatFormats_fillsWidth hf).two_le_expBits, Nat.add_comm, pow_add]
  refine Nat.mul_lt_mul_of_pos_right (hk.trans_lt ?_) (Nat.two_pow_pos _)
  exact Nat.pow_lt_pow_right (by decide) (floatFormats_fracBits_lt hf)

/-- A finite value of a format is a finite value of every format with at least its exponent and fraction bits. -/
theorem exists_finitePattern_of_narrower {src dst : FloatFormat} (he : 2 ≤ src.expBits)
    (hexp : src.expBits ≤ dst.expBits) (hfrac : src.fracBits ≤ dst.fracBits) {p : Nat} (hp : p < infPattern src) :
    ∃ p', p' < infPattern dst ∧ patternMag dst p' * 2 ^ unitExp src = patternMag src p * 2 ^ unitExp dst := by
  have hbias : 2 ^ (src.expBits - 1) ≤ 2 ^ (dst.expBits - 1) := Nat.pow_le_pow_right (by decide) (by omega)
  obtain ⟨c, hc⟩ : ∃ c, unitExp dst = unitExp src + c := Nat.exists_eq_add_of_le (by unfold unitExp; omega)
  have hlt := patternMag_strictMono src hp
  rw [patternMag_infPattern src he] at hlt
  obtain ⟨q, k, rfl, hk, hq⟩ := exists_scaled src p
  rw [patternMag_scaled src q k hk.le hq] at hlt ⊢
  have hk' : k ≤ 2 * 2 ^ dst.fracBits :=
    hk.le.trans (Nat.mul_le_mul_left 2 (Nat.pow_le_pow_right (by decide) hfrac))
  obtain ⟨p', hp', hmag⟩ := exists_finitePattern dst (q := q + c) hk' <| by
    rw [patternMag_infPattern dst (he.trans hexp)]
    calc k * 2 ^ (q + c) = k * 2 ^ q * 2 ^ c := by ring
      _ < 2 ^ (unitExp src + 2 ^ (src.expBits - 1)) * 2 ^ c := Nat.mul_lt_mul_of_pos_right hlt (Nat.two_pow_pos c)
      _ = 2 ^ (unitExp dst + 2 ^ (src.expBits - 1)) := by rw [hc]; ring
      _ ≤ 2 ^ (unitExp dst + 2 ^ (dst.expBits - 1)) := Nat.pow_le_pow_right (by decide) (by omega)
  exact ⟨p', hp', by rw [hmag, hc]; ring⟩

/-- Rounding a magnitude that is that of a finite pattern is exact. -/
theorem fval_roundUnits_patternMag {fmt : FloatFormat} {w : Nat} (hw : FillsWidth fmt w) (neg : Bool) {p d : Nat}
    (hd : 0 < d) (hp : p < infPattern fmt) :
    fval fmt (roundUnits fmt w neg (patternMag fmt p * d) d) = .fin neg (patternMag fmt p) := by
  rw [roundUnits, roundPattern_patternMag fmt hw.fracBits_pos hd hp.le, fval_withSign_of_lt hw neg hp]

/-- An exact zero keeps the given sign. -/
theorem roundUnits_zero (fmt : FloatFormat) (w : Nat) (neg : Bool) (d : Nat) :
    roundUnits fmt w neg 0 d = signedZero fmt w neg := by
  rw [roundUnits, roundPattern_zero, signedZero]

theorem signedZero_false (fmt : FloatFormat) (w : Nat) : signedZero fmt w false = 0#w := rfl

end Sys2Proof.Machine
end

section
/-! PROOFS. Conversion and bit reinterpretation (41_conversion.md R90 to R96).

BITCAST, and CVT from a shape to itself, is the retagging form; every other CVT is the conversion form over a function
of one lane. So each statement about a CVT is a property of that function (`IntToFloatLane`, `FloatToIntLane`,
`FloatToFloatLane`), which `convert_lanes` carries to the lanes of the result. -/
namespace Sys2Proof.Machine

/-! The instructions as their operand forms. -/

/-- Every BITCAST retags (41_conversion.md R96). -/
theorem exec_of_bitcast {dst src : Shape} {i : Instr} (h : conversionOf .bitcast dst src = some i) (s : State) :
    exec i s = .next (s.retag dst src) := by
  cases src <;> cases dst <;> cases h <;> rfl

/-- A CVT from a shape to itself retags (41_conversion.md R95). -/
theorem exec_of_cvt_self {sh : Shape} {i : Instr} (h : conversionOf .cvt sh sh = some i) (s : State) :
    exec i s = .next (s.retag sh sh) := by
  cases sh <;> cases h <;> rfl

theorem retag_deliversData {i : Instr} {s : State} {dst src : Shape} (hexec : exec i s = .next (s.retag dst src))
    (h : ReadyA s src) : DeliversData i s dst s.ports.a.data :=
  ⟨_, hexec, retag_spec s dst src h⟩

theorem convert_deliversLanes {i : Instr} {s : State} {dst src : Shape}
    {conv : BitVec (shapeWidth src) → BitVec (shapeWidth dst)} (hexec : exec i s = .next (s.convert dst src conv))
    (h : ReadyA s src) :
    DeliversLanes i s dst fun k => if k < shapeLanes src then conv (laneA s src k) else 0#_ :=
  ⟨_, hexec, convert_spec s dst src conv h⟩

/-- What holds of every lane and its conversion holds of the source and destination lanes of CVT; a lane without a source
is zero (41_conversion.md R90). -/
theorem convert_lanes {i : Instr} {s : State} {dst src : Shape}
    {conv : BitVec (shapeWidth src) → BitVec (shapeWidth dst)} (hexec : exec i s = .next (s.convert dst src conv))
    {P : BitVec (shapeWidth src) → BitVec (shapeWidth dst) → Prop} (hP : ∀ x, P x (conv x)) (h : ReadyA s src) :
    ∃ t, exec i s = .next t ∧ Delivered s t (Shape.tag dst) ∧ ∀ k, k < shapeLanes dst →
      (shapeLanes src ≤ k → resLane t dst k = 0#_) ∧ (k < shapeLanes src → P (laneA s src k) (resLane t dst k)) := by
  obtain ⟨t, ht, hdel, hlanes⟩ := convert_deliversLanes hexec h
  refine ⟨t, ht, hdel, fun k hk => ⟨fun hle => ?_, fun hlt => ?_⟩⟩
  · exact (hlanes k hk).trans (if_neg hle.not_gt)
  · rw [(hlanes k hk).trans (if_pos hlt)]
    exact hP _

/-! Retagging. -/

/-- Settles O51: the five instructions are the CVTs from a shape to itself. -/
theorem identityConversionKeepsEveryBit : Obligations.IdentityConversionKeepsEveryBit := by
  intro e he s
  have hcvt : conversionOf .cvt e.1 e.1 = some e.2 := by revert e; decide
  exact retag_deliversData (exec_of_cvt_self hcvt s)

/-- Settles O52: the 25 instructions are the BITCASTs of the ordered pairs of numeric shapes. -/
theorem bitcastKeepsData : Obligations.BitcastKeepsData := by
  intro e he s
  have hcast : conversionOf .bitcast e.1 e.2.1 = some e.2.2 := by revert e; decide
  exact retag_deliversData (exec_of_bitcast hcast s)

/-- The shapes BITCAST reads from are numeric, so every data word is a value of theirs. -/
theorem holds_of_bitcast {dst src : Shape} {i : Instr} (h : conversionOf .bitcast dst src = some i) {v : Value}
    (htag : v.tag = Shape.tag src) : Holds v src := by
  have hmask : isMaskTag (Shape.tag src) = false := by
    cases src with
    | f64x2 | f32x4 | i32x4 | i16x8 | i8x16 => rfl
    | m64x2 | m32x4 | m16x8 | m8x16 => cases h
  obtain ⟨t, d⟩ := v
  cases htag
  exact ⟨rfl, proper_of_not_mask hmask d⟩

/-- Settles O53: both BITCASTs keep the data word, and the first result is a value of the shape the second reads. -/
theorem bitcastRoundTrip : Obligations.BitcastRoundTrip := by
  intro dst src i j hi hj s h
  obtain ⟨t, ht, ⟨-, htag, -⟩, hdata⟩ := retag_deliversData (exec_of_bitcast hi s) h
  obtain ⟨u, hu, ⟨-, hutag, huerr, -⟩, hudata⟩ := retag_deliversData
    (exec_of_bitcast hj { t with ports := { t.ports with a := t.resValue } }) (holds_of_bitcast hj htag)
  exact ⟨t, ht, u, hu, huerr, hutag, hudata.trans hdata⟩

/-! Integer to integer (41_conversion.md R91). -/

/-- Sign extension writes the signed value in `wd` bits. -/
theorem convSignExtend_eq (wd : Nat) {ws : Nat} :
    convSignExtend wd (ws := ws) = fun x => BitVec.ofInt wd x.toInt := rfl

/-- The low bits are the signed value reduced modulo `2^wd`. -/
theorem convTruncate_eq {wd ws : Nat} (h : wd ≤ ws) :
    convTruncate wd (ws := ws) = fun x => BitVec.ofInt wd x.toInt := by
  funext x
  calc convTruncate wd x = x.setWidth wd := (BitVec.setWidth_eq_extractLsb' h).symm
    _ = x.signExtend wd := (BitVec.signExtend_eq_setWidth_of_le x h).symm

/-- Settles O54: each of the six instructions converts a lane to its signed value, reduced. -/
theorem integerToIntegerConversion : Obligations.IntegerToIntegerConversion := by
  intro e he s h
  have hexec : exec e.2.2 s = .next (s.convert e.1 e.2.1 fun x => BitVec.ofInt _ x.toInt) := by
    fin_cases he
    · rw [exec_cvtI32x4I16x8, convSignExtend_eq]; rfl
    · rw [exec_cvtI32x4I8x16, convSignExtend_eq]; rfl
    · rw [exec_cvtI16x8I8x16, convSignExtend_eq]; rfl
    · rw [exec_cvtI16x8I32x4, convTruncate_eq (by decide)]; rfl
    · rw [exec_cvtI8x16I32x4, convTruncate_eq (by decide)]; rfl
    · rw [exec_cvtI8x16I16x8, convTruncate_eq (by decide)]; rfl
  exact convert_deliversLanes hexec h

/-! Integer to float (41_conversion.md R92). -/

/-- `r` is the float lane for the integer lane `x`: `+0` for zero, else the value rounded, which is exact for up to
`fracBits + 1` bits. -/
def IntToFloatLane (fmt : FloatFormat) {ws wd : Nat} (x : BitVec ws) (r : BitVec wd) : Prop :=
  let n := x.toInt
  (n = 0 → r = 0#wd) ∧ (n ≠ 0 → RoundedTo fmt (n : ℚ) r) ∧
    (|n| ≤ 2 ^ (fmt.fracBits + 1) → ratOf fmt (fval fmt r) = (n : ℚ))

/-- An integer is its magnitude times `2^unitExp` units with its sign. -/
theorem signedUnit_mul_natAbs (fmt : FloatFormat) (n : Int) :
    signedUnit fmt (decide (n < 0)) * ((n.natAbs * 2 ^ unitExp fmt : Nat) : ℚ) = n := by
  rw [signedUnit, Nat.cast_mul, Nat.cast_natAbs, Nat.cast_pow, Nat.cast_ofNat]
  rcases lt_or_ge n 0 with hn | hn
  · rw [abs_of_neg hn, Int.cast_neg, decide_eq_true hn, if_pos rfl]
    field_simp
  · rw [abs_of_nonneg hn, decide_eq_false hn.not_gt, if_neg Bool.false_ne_true]
    field_simp

theorem convIntToFloat_lane {f : FloatFormat × Nat} (hf : f ∈ floatFormats) {ws : Nat} (x : BitVec ws) :
    IntToFloatLane f.1 x (convIntToFloat f.1 f.2 x) := by
  have hw := floatFormats_fillsWidth hf
  refine ⟨fun hzero => ?_, fun hne => ?_, fun hsmall => ?_⟩
  · simp [convIntToFloat, sval, hzero, roundUnits_zero, signedZero_false]
  · have hpos : 0 < x.toInt.natAbs * 2 ^ unitExp f.1 := Nat.mul_pos (Int.natAbs_pos.2 hne) (Nat.two_pow_pos _)
    have h := roundUnits_roundedTo hw (decide (x.toInt < 0)) _ 1 hpos Nat.one_pos
    rwa [Nat.cast_one, div_one, signedUnit_mul_natAbs] at h
  · obtain ⟨p, hp, hmag⟩ := exists_finitePattern_of_nat hf (k := x.toInt.natAbs) (by zify; exact hsmall)
    have h := fval_roundUnits_patternMag hw (decide (x.toInt < 0)) Nat.one_pos hp
    rw [mul_one, hmag] at h
    rw [convIntToFloat, sval, h, ratOf_fin, signedUnit_mul_natAbs]

/-- Settles O55: each of the six instructions converts its lanes by `convIntToFloat`. -/
theorem integerToFloatConversion : Obligations.IntegerToFloatConversion := by
  intro e he
  have hfmt : (e.2.1, shapeWidth e.1) ∈ floatFormats := by revert e; decide
  intro s h
  have hexec : exec e.2.2.2 s = .next (s.convert e.1 e.2.2.1 (convIntToFloat e.2.1 _)) := by fin_cases he <;> rfl
  exact convert_lanes hexec (P := IntToFloatLane e.2.1) (convIntToFloat_lane hfmt) h

/-! Float to integer (41_conversion.md R93). -/

/-- `r` is the integer lane for the float lane `x`: the value truncated toward zero and clamped, and 0 for a NaN. -/
def FloatToIntLane (fmt : FloatFormat) {ws wd : Nat} (x : BitVec ws) (r : BitVec wd) : Prop :=
  let hi : Int := 2 ^ (wd - 1) - 1
  let lo : Int := -2 ^ (wd - 1)
  (fval fmt x = .nan → r = 0#wd) ∧ (fval fmt x = .inf false → r.toInt = hi) ∧
    (fval fmt x = .inf true → r.toInt = lo) ∧
    (IsFinite fmt x →
      let v := ratOf fmt (fval fmt x)
      r.toInt = max lo (min hi (if 0 ≤ v then ⌊v⌋ else ⌈v⌉)))

theorem saturate_eq_max_min (wd : Nat) (n : Int) :
    saturate wd n = max (-2 ^ (wd - 1)) (min (2 ^ (wd - 1) - 1) n) := by
  have hpos : (0 : Int) < 2 ^ (wd - 1) := by positivity
  unfold saturate
  split_ifs <;> omega

/-- Within the range of `wd` bits the lane has the number's value. -/
theorem toInt_wrap {wd : Nat} (hwd : 0 < wd) {n : Int} (hlo : -2 ^ (wd - 1) ≤ n) (hhi : n ≤ 2 ^ (wd - 1) - 1) :
    (wrap wd n).toInt = n :=
  BitVec.toInt_ofInt_eq_self hwd hlo (by omega)

theorem signedMag_div_eq_trunc (fmt : FloatFormat) (s : Bool) (m : Nat) :
    signedMag s (m / 2 ^ unitExp fmt) =
      if 0 ≤ ratOf fmt (.fin s m) then ⌊ratOf fmt (.fin s m)⌋ else ⌈ratOf fmt (.fin s m)⌉ := by
  have hfloor : ⌊(m : ℚ) / 2 ^ unitExp fmt⌋ = ((m / 2 ^ unitExp fmt : Nat) : Int) := by
    exact_mod_cast Rat.floor_natCast_div_natCast m (2 ^ unitExp fmt)
  have hnonneg : (0 : ℚ) ≤ m / 2 ^ unitExp fmt := by positivity
  cases s
  · simp [ratOf, signedMag, hnonneg, hfloor]
  · rcases hnonneg.eq_or_lt with hzero | hpos
    · rw [← hzero, Int.floor_zero] at hfloor
      simp [ratOf, signedMag, neg_div, ← hzero, ← hfloor]
    · simp [ratOf, signedMag, neg_div, hpos.not_ge, Int.ceil_neg, hfloor]

theorem convFloatToInt_lane (fmt : FloatFormat) {wd : Nat} (hwd : 0 < wd) {ws : Nat} (x : BitVec ws) :
    FloatToIntLane fmt x (convFloatToInt fmt wd x) := by
  have hpos : (0 : Int) < 2 ^ (wd - 1) := by positivity
  refine ⟨fun h => ?_, fun h => ?_, fun h => ?_, ?_⟩
  · simp [convFloatToInt, h]
  · simpa [convFloatToInt, h] using toInt_wrap hwd (by omega) le_rfl
  · simpa [convFloatToInt, h] using toInt_wrap hwd le_rfl (by omega)
  · rintro ⟨s, m, h⟩
    simp only [convFloatToInt, h, saturate_eq_max_min, ← signedMag_div_eq_trunc]
    exact toInt_wrap hwd (by omega) (by omega)

/-- Settles O56: each of the six instructions converts its lanes by `convFloatToInt`. -/
theorem floatToIntegerConversion : Obligations.FloatToIntegerConversion := by
  intro e he s h
  have hexec : exec e.2.2.2 s = .next (s.convert e.1 e.2.1 (convFloatToInt e.2.2.1 _)) := by fin_cases he <;> rfl
  exact convert_lanes hexec (P := FloatToIntLane e.2.2.1) (convFloatToInt_lane _ (shapeWidth_pos e.1)) h

/-! Float to float (41_conversion.md R94). -/

/-- `r` is the lane of format `dst` for the lane `x` of format `src`: special values and zeros keep their kind and sign,
every other value is rounded, and binary64 holds it exactly. -/
def FloatToFloatLane (src dst : FloatFormat) {ws wd : Nat} (x : BitVec ws) (r : BitVec wd) : Prop :=
  (fval src x = .nan → r = cnan dst wd) ∧ (∀ p, fval src x = .inf p → r = infinity dst wd p) ∧
    (∀ p, fval src x = .fin p 0 → r = signedZero dst wd p) ∧
    (∀ p m, fval src x = .fin p m → m ≠ 0 → RoundedTo dst (ratOf src (fval src x)) r ∧
      (dst = binary64 → IsFinite dst r ∧ ratOf dst (fval dst r) = ratOf src (fval src x)))

/-- Units of one format as units of another. -/
theorem signedUnit_mul_units (src dst : FloatFormat) (neg : Bool) (m : Nat) :
    signedUnit dst neg * (((m * 2 ^ unitExp dst : Nat) : ℚ) / (2 ^ unitExp src : Nat)) = ratOf src (.fin neg m) := by
  rw [ratOf_fin, signedUnit, signedUnit]
  push_cast
  field_simp

theorem convFloatToFloat_lane {src dst : FloatFormat} {wd : Nat} (hw : FillsWidth dst wd) (he : 2 ≤ src.expBits)
    (hwiden : dst = binary64 → src.expBits ≤ dst.expBits ∧ src.fracBits ≤ dst.fracBits) {ws : Nat} (x : BitVec ws) :
    FloatToFloatLane src dst x (convFloatToFloat src dst wd x) := by
  have hunit : 0 < 2 ^ unitExp src := Nat.two_pow_pos _
  refine ⟨fun h => by simp [convFloatToFloat, h], fun p h => by simp [convFloatToFloat, h],
    fun p h => by simp [convFloatToFloat, h, roundUnits_zero], fun p m h hm => ?_⟩
  simp only [convFloatToFloat, h]
  refine ⟨?_, fun hdst => ?_⟩
  · rw [← signedUnit_mul_units src dst]
    exact roundUnits_roundedTo hw p _ _ (Nat.mul_pos (Nat.pos_of_ne_zero hm) (Nat.two_pow_pos _)) hunit
  · obtain ⟨hexp, hfrac⟩ := hwiden hdst
    obtain ⟨ps, hps, rfl⟩ := exists_finitePattern_of_fval_fin h
    obtain ⟨pd, hpd, hmag⟩ := exists_finitePattern_of_narrower he hexp hfrac hps
    have hfin := fval_roundUnits_patternMag hw p hunit hpd
    rw [hmag] at hfin
    refine ⟨⟨_, _, hfin⟩, ?_⟩
    rw [hfin, ← signedUnit_mul_units src dst, ← hmag, ratOf_fin]
    push_cast
    field_simp

/-- Settles O57: both instructions convert their lanes by `convFloatToFloat`, and the one to binary64 widens. -/
theorem floatToFloatConversion : Obligations.FloatToFloatConversion := by
  intro e he
  obtain ⟨hfmt, hsrc, hwiden⟩ : (e.2.1, shapeWidth e.1) ∈ floatFormats ∧ 2 ≤ e.2.2.2.1.expBits ∧
      (e.2.1 = binary64 → e.2.2.2.1.expBits ≤ e.2.1.expBits ∧ e.2.2.2.1.fracBits ≤ e.2.1.fracBits) := by
    revert e; decide
  intro s h
  have hexec : exec e.2.2.2.2 s = .next (s.convert e.1 e.2.2.1 (convFloatToFloat e.2.2.2.1 e.2.1 _)) := by
    fin_cases he <;> rfl
  exact convert_lanes hexec (P := FloatToFloatLane e.2.2.2.1 e.2.1)
    (convFloatToFloat_lane (floatFormats_fillsWidth hfmt) hsrc hwiden) h

end Sys2Proof.Machine
end

section
/-! PROOFS. Elementwise arithmetic, lane by lane (42_arithmetic.md R102 to R113).

Each instruction is a unary, binary or ternary form over one lane function, and the form delivers that function of the
lanes. What is left of each statement is what the lane function is: on integers the exact result reduced modulo `2^w`,
on floats the operation of the shape's format, and for ABS and NEG a change of the sign bit. -/
namespace Sys2Proof.Machine

/-! The delivered lanes of an operand form. -/

theorem unary_deliversLanes {i : Instr} {s : State} {sh : Shape} {f : BitVec (shapeWidth sh) → BitVec (shapeWidth sh)}
    (hexec : exec i s = .next (s.unary sh f)) (h : ReadyA s sh) :
    DeliversLanes i s sh fun k => f (laneA s sh k) :=
  ⟨_, hexec, unary_spec s sh f h⟩

theorem binary_deliversLanes {i : Instr} {s : State} {sh : Shape}
    {f : BitVec (shapeWidth sh) → BitVec (shapeWidth sh) → BitVec (shapeWidth sh)}
    (hexec : exec i s = .next (s.binary sh f)) (h : ReadyAB s sh) :
    DeliversLanes i s sh fun k => f (laneA s sh k) (laneB s sh k) :=
  ⟨_, hexec, binary_spec s sh f h⟩

theorem ternary_deliversLanes {i : Instr} {s : State} {sh : Shape}
    {f : BitVec (shapeWidth sh) → BitVec (shapeWidth sh) → BitVec (shapeWidth sh) → BitVec (shapeWidth sh)}
    (hexec : exec i s = .next (s.ternary sh f)) (h : ReadyABC s sh) :
    DeliversLanes i s sh fun k => f (laneA s sh k) (laneB s sh k) (laneC s sh k) :=
  ⟨_, hexec, ternary_spec s sh f h⟩

/-- What holds of every lane and its image holds of the lanes of a unary form. -/
theorem unary_lanes {i : Instr} {s : State} {sh : Shape} {f : BitVec (shapeWidth sh) → BitVec (shapeWidth sh)}
    (hexec : exec i s = .next (s.unary sh f)) {P : BitVec (shapeWidth sh) → BitVec (shapeWidth sh) → Prop}
    (hP : ∀ x, P x (f x)) (h : ReadyA s sh) :
    ∃ t, exec i s = .next t ∧ Delivered s t (Shape.tag sh) ∧
      ∀ k, k < shapeLanes sh → P (laneA s sh k) (resLane t sh k) := by
  obtain ⟨t, ht, hdel, hlanes⟩ := unary_deliversLanes hexec h
  exact ⟨t, ht, hdel, fun k hk => by rw [hlanes k hk]; exact hP _⟩

/-! Integer lanes. -/

/-- Settles O24: the lane operations are the exact results, wrapped. -/
theorem integerAddSubMulLanes : Obligations.IntegerAddSubMulLanes := by
  intro e he s h
  obtain ⟨hadd, hsub, hmul⟩ : exec e.2.1 s = .next (s.binary e.1 intAdd) ∧
      exec e.2.2.1 s = .next (s.binary e.1 intSub) ∧ exec e.2.2.2 s = .next (s.binary e.1 intMul) := by
    fin_cases he <;> exact ⟨rfl, rfl, rfl⟩
  exact ⟨binary_deliversLanes hadd h, binary_deliversLanes hsub h, binary_deliversLanes hmul h⟩

/-- Settles O25: `intDiv` is this quotient. -/
theorem integerDivLanes : Obligations.IntegerDivLanes := by
  intro e he s h
  have hdiv : exec e.2 s = .next (s.binary e.1 intDiv) := by fin_cases he <;> rfl
  exact binary_deliversLanes hdiv h

theorem intAbs_eq {w : Nat} (a : BitVec w) : intAbs a = BitVec.ofInt w |a.toInt| := by
  rw [intAbs, wrap, sval, Int.natCast_natAbs]

/-- The absolute value of the least value wraps to it. -/
theorem ofInt_abs_toInt_intMin (w : Nat) : BitVec.ofInt w |(BitVec.intMin w).toInt| = BitVec.intMin w := by
  have habs : |(BitVec.intMin w).toInt| = (BitVec.intMin w).toNat := by
    rw [BitVec.toInt_intMin, BitVec.toNat_intMin, abs_neg, Nat.abs_cast]
  rw [habs, BitVec.ofInt_natCast, BitVec.ofNat_toNat, BitVec.setWidth_eq]

/-- Settles O26: `intAbs` wraps the absolute value, `intNeg` the negation. -/
theorem integerAbsNegLanes : Obligations.IntegerAbsNegLanes := by
  intro e he s h
  obtain ⟨habs, hneg⟩ : exec e.2.1 s = .next (s.unary e.1 intAbs) ∧ exec e.2.2 s = .next (s.unary e.1 intNeg) := by
    fin_cases he <;> exact ⟨rfl, rfl⟩
  refine ⟨?_, unary_deliversLanes hneg h, fun k _ hmin => ?_⟩
  · simpa only [intAbs_eq] using unary_deliversLanes habs h
  · rw [hmin, ofInt_abs_toInt_intMin]

@[simp] theorem toInt_intMin {w : Nat} (a b : BitVec w) : (intMin a b).toInt = min a.toInt b.toInt := by
  unfold intMin sval
  split
  · next h => exact (min_eq_left h).symm
  · next h => exact (min_eq_right (not_le.1 h).le).symm

@[simp] theorem toInt_intMax {w : Nat} (a b : BitVec w) : (intMax a b).toInt = max a.toInt b.toInt := by
  unfold intMax sval
  split
  · next h => exact (max_eq_left h).symm
  · next h => exact (max_eq_right (not_le.1 h).le).symm

theorem intMin_eq {w : Nat} (a b : BitVec w) : intMin a b = BitVec.ofInt w (min a.toInt b.toInt) := by
  rw [← toInt_intMin, BitVec.ofInt_toInt]

theorem intMax_eq {w : Nat} (a b : BitVec w) : intMax a b = BitVec.ofInt w (max a.toInt b.toInt) := by
  rw [← toInt_intMax, BitVec.ofInt_toInt]

theorem intClamp_eq {w : Nat} (t lower upper : BitVec w) :
    intClamp t lower upper = BitVec.ofInt w (max (min t.toInt upper.toInt) lower.toInt) := by
  rw [intClamp, intMax_eq, toInt_intMin]

/-- Settles O27: the lane operations have these signed values. -/
theorem integerMinMaxClampLanes : Obligations.IntegerMinMaxClampLanes := by
  intro e he s
  obtain ⟨hmin, hmax, hclamp⟩ : exec e.2.1 s = .next (s.binary e.1 intMin) ∧
      exec e.2.2.1 s = .next (s.binary e.1 intMax) ∧ exec e.2.2.2 s = .next (s.ternary e.1 intClamp) := by
    fin_cases he <;> exact ⟨rfl, rfl, rfl⟩
  refine ⟨fun h => ⟨?_, ?_⟩, fun h => ?_⟩
  · simpa only [intMin_eq] using binary_deliversLanes hmin h
  · simpa only [intMax_eq] using binary_deliversLanes hmax h
  · simpa only [intClamp_eq] using ternary_deliversLanes hclamp h

/-! Float lanes. -/

/-- Settles O33: the lane operation of each instruction is `fop` in the format of its shape. -/
theorem floatArithmeticLanes : Obligations.FloatArithmeticLanes := by
  intro e he s
  fin_cases he
  · exact ⟨fun h => ⟨binary_deliversLanes (exec_addF64x2 s) h, binary_deliversLanes (exec_subF64x2 s) h,
      binary_deliversLanes (exec_mulF64x2 s) h, binary_deliversLanes (exec_divF64x2 s) h⟩,
      unary_deliversLanes (exec_sqrtF64x2 s)⟩
  · exact ⟨fun h => ⟨binary_deliversLanes (exec_addF32x4 s) h, binary_deliversLanes (exec_subF32x4 s) h,
      binary_deliversLanes (exec_mulF32x4 s) h, binary_deliversLanes (exec_divF32x4 s) h⟩,
      unary_deliversLanes (exec_sqrtF32x4 s)⟩

/-- Settles O35: the lane operation of each instruction is that of the statement, and CLAMP's is `floatClamp`. -/
theorem floatMinMaxLanes : Obligations.FloatMinMaxLanes := by
  intro e he s
  fin_cases he
  · exact ⟨fun h => ⟨binary_deliversLanes (exec_minF64x2 s) h, binary_deliversLanes (exec_maxF64x2 s) h,
      binary_deliversLanes (exec_minnumF64x2 s) h, binary_deliversLanes (exec_maxnumF64x2 s) h⟩,
      ternary_deliversLanes (exec_clampF64x2 s)⟩
  · exact ⟨fun h => ⟨binary_deliversLanes (exec_minF32x4 s) h, binary_deliversLanes (exec_maxF32x4 s) h,
      binary_deliversLanes (exec_minnumF32x4 s) h, binary_deliversLanes (exec_maxnumF32x4 s) h⟩,
      ternary_deliversLanes (exec_clampF32x4 s)⟩

/-- `floatAbs` clears the sign bit and keeps every other bit (42_arithmetic.md R106). -/
theorem floatAbs_getLsbD {w : Nat} (a : BitVec w) {j : Nat} (hj : j < w) :
    (floatAbs a).getLsbD j = if j = w - 1 then false else a.getLsbD j := by
  rw [floatAbs, BitVec.getLsbD_and, BitVec.getLsbD_not, BitVec.getLsbD_twoPow]
  split
  · next h => simp [← h, hj]
  · next h => simp [hj, Ne.symm h]

/-- `floatNeg` inverts the sign bit and keeps every other bit (42_arithmetic.md R107). -/
theorem floatNeg_getLsbD {w : Nat} (a : BitVec w) {j : Nat} (hj : j < w) :
    (floatNeg a).getLsbD j = if j = w - 1 then !a.getLsbD j else a.getLsbD j := by
  rw [floatNeg, BitVec.getLsbD_xor, BitVec.getLsbD_twoPow]
  split
  · next h => simp [← h, hj]
  · next h => simp [Ne.symm h]

/-- Settles O34: the lane operations are `floatAbs` and `floatNeg`. -/
theorem floatAbsNegChangeOnlySign : Obligations.FloatAbsNegChangeOnlySign := by
  intro e he s h
  obtain ⟨habs, hneg⟩ : exec e.2.1 s = .next (s.unary e.1 floatAbs) ∧
      exec e.2.2 s = .next (s.unary e.1 floatNeg) := by
    fin_cases he <;> exact ⟨rfl, rfl⟩
  constructor
  · obtain ⟨t, ht, hdel, hlanes⟩ := unary_deliversLanes habs h
    exact ⟨t, ht, hdel, fun k hk j hj => by rw [hlanes k hk, floatAbs_getLsbD _ hj]⟩
  · obtain ⟨t, ht, hdel, hlanes⟩ := unary_deliversLanes hneg h
    exact ⟨t, ht, hdel, fun k hk j hj => by rw [hlanes k hk, floatNeg_getLsbD _ hj]⟩

end Sys2Proof.Machine
end

section
/-! PROOFS. Commutative operations (42_arithmetic.md R102, R104; 43_bitwise.md R130 to R132; 95_test_vectors.md P2).

The checks look at ports A and B alike, so the order of the two matters in no error; and the lane and word operations
are commutative, NaN operands included, since every computed NaN is the canonical one. -/
namespace Sys2Proof.Machine

/-! Exchanged operands. -/

/-- The state with ports A and B exchanged. -/
def State.swapAB (s : State) : State := { s with ports := { s.ports with a := s.ports.b, b := s.ports.a } }

/-- The order of two read ports does not change the outcome of the checks. -/
theorem checkedAnswer_pair_comm (p q : ReadPort) (r : Bool) (v : Value) :
    checkedAnswer [p, q] r v = checkedAnswer [q, p] r v := by
  simp [checkedAnswer, typeFault, shapeFault, Bool.or_comm]

theorem binary_swapAB_sameResult (s : State) (sh : Shape)
    {f : BitVec (shapeWidth sh) → BitVec (shapeWidth sh) → BitVec (shapeWidth sh)} (hf : ∀ x y, f x y = f y x) :
    SameResult (s.binary sh f) (s.swapAB.binary sh f) := by
  have hlanes : ∀ k, f (lane (shapeWidth sh) s.swapAB.ports.a.data k) (lane (shapeWidth sh) s.swapAB.ports.b.data k) =
      f (lane (shapeWidth sh) s.ports.a.data k) (lane (shapeWidth sh) s.ports.b.data k) := fun k => hf _ _
  rw [State.binary, State.binary, issue_eq_record, issue_eq_record, checkedAnswer_pair_comm]
  simp only [hlanes]
  exact sameResult_record _ _ _

theorem binaryWord_swapAB_sameResult (s : State) (sh : Shape) {f : Data → Data → Data} (hf : ∀ x y, f x y = f y x) :
    SameResult (s.binaryWord sh f) (s.swapAB.binaryWord sh f) := by
  have hword : f s.swapAB.ports.a.data s.swapAB.ports.b.data = f s.ports.a.data s.ports.b.data := hf _ _
  rw [State.binaryWord, State.binaryWord, issue_eq_record, issue_eq_record, checkedAnswer_pair_comm, hword]
  exact sameResult_record _ _ _

/-! The lane operations are commutative. -/

theorem intAdd_comm {w : Nat} (a b : BitVec w) : intAdd a b = intAdd b a := by rw [intAdd, intAdd, Int.add_comm]

theorem intMul_comm {w : Nat} (a b : BitVec w) : intMul a b = intMul b a := by rw [intMul, intMul, Int.mul_comm]

/-- Every NaN that goes in comes out as the canonical one, so a sum does not tell which operand it was. -/
theorem addVals_comm (fmt : FloatFormat) (w : Nat) (x y : FloatVal) : addVals fmt w x y = addVals fmt w y x := by
  cases x with
  | nan => cases y <;> rfl
  | inf s =>
    cases y with
    | nan | fin => rfl
    | inf t => cases s <;> cases t <;> rfl
  | fin s m =>
    cases y with
    | nan | inf => rfl
    | fin t n => simp only [addVals, Int.add_comm (signedMag s m), Bool.and_comm s]

theorem floatAdd_comm (fmt : FloatFormat) {w : Nat} (a b : BitVec w) : floatAdd fmt a b = floatAdd fmt b a :=
  addVals_comm fmt w _ _

theorem floatMul_comm (fmt : FloatFormat) {w : Nat} (a b : BitVec w) : floatMul fmt a b = floatMul fmt b a := by
  unfold floatMul
  cases fval fmt a with
  | nan => cases fval fmt b <;> rfl
  | inf s => cases fval fmt b <;> simp only [Bool.xor_comm s]
  | fin s m => cases fval fmt b <;> simp only [Bool.xor_comm s, Nat.mul_comm m]

/-- Settles O42: the lane and word operations are commutative, and the checks look at A and B alike. -/
theorem commutativeOperations : Obligations.CommutativeOperations := by
  intro i s t t' hopc ht ht'
  suffices h : ∃ u u', exec i s = .next u ∧ exec i s.swapAB = .next u' ∧ SameResult u u' by
    obtain ⟨u, u', hu, hu', hsame⟩ := h
    cases hu.symm.trans ht
    cases hu'.symm.trans ht'
    exact hsame
  cases i with
  | addF64x2 | addF32x4 => exact ⟨_, _, rfl, rfl, binary_swapAB_sameResult s _ (floatAdd_comm _)⟩
  | addI32x4 | addI16x8 | addI8x16 => exact ⟨_, _, rfl, rfl, binary_swapAB_sameResult s _ intAdd_comm⟩
  | mulF64x2 | mulF32x4 => exact ⟨_, _, rfl, rfl, binary_swapAB_sameResult s _ (floatMul_comm _)⟩
  | mulI32x4 | mulI16x8 | mulI8x16 => exact ⟨_, _, rfl, rfl, binary_swapAB_sameResult s _ intMul_comm⟩
  | andF64x2 | andF32x4 | andI32x4 | andI16x8 | andI8x16 | andM64x2 | andM32x4 | andM16x8 | andM8x16 =>
    exact ⟨_, _, rfl, rfl, binaryWord_swapAB_sameResult s _ BitVec.and_comm⟩
  | orF64x2 | orF32x4 | orI32x4 | orI16x8 | orI8x16 | orM64x2 | orM32x4 | orM16x8 | orM8x16 =>
    exact ⟨_, _, rfl, rfl, binaryWord_swapAB_sameResult s _ BitVec.or_comm⟩
  | xorF64x2 | xorF32x4 | xorI32x4 | xorI16x8 | xorI8x16 | xorM64x2 | xorM32x4 | xorM16x8 | xorM8x16 =>
    exact ⟨_, _, rfl, rfl, binaryWord_swapAB_sameResult s _ BitVec.xor_comm⟩
  | _ => exact absurd hopc (by decide)

end Sys2Proof.Machine
end

section
/-! PROOFS. Float arithmetic (42_arithmetic.md R100, R113; 00_scope.md R10, R11): the special cases, and that the four
operations round the exact result once.

The operations compute a fraction of units exactly and hand it to `roundUnits`, so correct rounding is
`roundUnits_roundedTo` of a fraction that has the value of the exact result. -/
namespace Sys2Proof.Machine

/-! Decoded values. -/

theorem isNaN_eq_true_iff (fmt : FloatFormat) {w : Nat} (x : BitVec w) : isNaN fmt x = true ↔ fval fmt x = .nan :=
  beq_iff_eq

theorem isNaN_eq_false_iff (fmt : FloatFormat) {w : Nat} (x : BitVec w) : isNaN fmt x = false ↔ fval fmt x ≠ .nan := by
  rw [← Bool.not_eq_true, isNaN_eq_true_iff]

theorem msb_of_fval_fin {fmt : FloatFormat} {w : Nat} {x : BitVec w} {s : Bool} {m : Nat}
    (h : fval fmt x = .fin s m) : x.msb = s := by
  simp only [fval] at h
  split at h
  · split at h <;> cases h
  · injection h

theorem msb_of_fval_inf {fmt : FloatFormat} {w : Nat} {x : BitVec w} {s : Bool} (h : fval fmt x = .inf s) :
    x.msb = s := by
  simp only [fval] at h
  split at h
  · split at h
    · injection h
    · cases h
  · cases h

/-! Sums of finite values. -/

theorem signedMag_false (m : Nat) : signedMag false m = m := rfl

@[simp] theorem signedMag_zero (s : Bool) : signedMag s 0 = 0 := by cases s <;> rfl

theorem signedMag_not (s : Bool) (m : Nat) : signedMag (!s) m = -signedMag s m := by cases s <;> simp [signedMag]

theorem addVals_fin_of_sum_eq_zero (fmt : FloatFormat) (w : Nat) {s t : Bool} {m n : Nat}
    (h : signedMag s m + signedMag t n = 0) :
    addVals fmt w (.fin s m) (.fin t n) = signedZero fmt w (s && t) := if_pos h

theorem addVals_fin_of_sum_ne_zero (fmt : FloatFormat) (w : Nat) {s t : Bool} {m n : Nat}
    (h : signedMag s m + signedMag t n ≠ 0) :
    addVals fmt w (.fin s m) (.fin t n) = roundUnits fmt w (decide (signedMag s m + signedMag t n < 0))
      (signedMag s m + signedMag t n).natAbs 1 := if_neg h

theorem addVals_opposite (fmt : FloatFormat) (w : Nat) (s : Bool) (m : Nat) :
    addVals fmt w (.fin s m) (.fin (!s) m) = signedZero fmt w false := by
  rw [addVals_fin_of_sum_eq_zero _ _ (by rw [signedMag_not, add_neg_cancel]), Bool.and_not_self]

theorem addVals_zeros (fmt : FloatFormat) (w : Nat) (s t : Bool) :
    addVals fmt w (.fin s 0) (.fin t 0) = signedZero fmt w (s && t) :=
  addVals_fin_of_sum_eq_zero _ _ (by simp)

/-! The operations on finite lanes. -/

section
variable {fmt : FloatFormat} {w : Nat} {a b : BitVec w} {s t : Bool} {m n : Nat}

theorem floatSub_of_fin (ha : fval fmt a = .fin s m) (hb : fval fmt b = .fin t n) :
    floatSub fmt a b = addVals fmt w (.fin s m) (.fin (!t) n) := by
  rw [floatSub, ha, hb, FloatVal.negated]

theorem floatMul_of_fin (ha : fval fmt a = .fin s m) (hb : fval fmt b = .fin t n) :
    floatMul fmt a b = roundUnits fmt w (s ^^ t) (m * n) (2 ^ unitExp fmt) := by
  simp only [floatMul, ha, hb]

theorem floatDiv_of_fin_zero (ha : fval fmt a = .fin s m) (hb : fval fmt b = .fin t 0) :
    floatDiv fmt a b = if m = 0 then cnan fmt w else infinity fmt w (s ^^ t) := by
  simp only [floatDiv, ha, hb, if_true]

theorem floatDiv_of_fin (ha : fval fmt a = .fin s m) (hb : fval fmt b = .fin t n) (hn : n ≠ 0) :
    floatDiv fmt a b = roundUnits fmt w (s ^^ t) (m * 2 ^ unitExp fmt) n := by
  simp only [floatDiv, ha, hb, hn, if_false]

theorem floatSqrt_of_pos (ha : fval fmt a = .fin false m) (hm : m ≠ 0) :
    floatSqrt fmt a = withSign fmt w false (roundSqrtPattern fmt (m * 2 ^ unitExp fmt) 1) := by
  simp [floatSqrt, ha, hm]

end

/-- Every NaN operand gives the canonical NaN (42_arithmetic.md R100). -/
theorem floatArithmetic_of_nan {fmt : FloatFormat} {w : Nat} {a b : BitVec w}
    (h : fval fmt a = .nan ∨ fval fmt b = .nan) :
    floatAdd fmt a b = cnan fmt w ∧ floatSub fmt a b = cnan fmt w ∧ floatMul fmt a b = cnan fmt w ∧
      floatDiv fmt a b = cnan fmt w := by
  rcases h with h | h
  · simp [floatAdd, floatSub, floatMul, floatDiv, addVals, h]
  · cases ha : fval fmt a <;> simp [floatAdd, floatSub, floatMul, floatDiv, addVals, FloatVal.negated, ha, h]

/-- Settles O32: each clause is a branch of the lane operations; with a zero the product and the quotient round zero,
and with opposite values the exact sum is zero. -/
theorem floatSpecialCases : Obligations.FloatSpecialCases := by
  intro f _ a b
  simp only [isNaN_eq_true_iff]
  refine ⟨floatArithmetic_of_nan, fun ha => ?nan, fun p q ha hb => ?inf_inf, fun p q n ha hb => ?inf_fin,
    fun p q m ha hb => ?fin_inf, fun p q m n ha hb => ?fin_fin, fun p m ha => ?sqrt_fin, fun p ha => ?sqrt_inf⟩
  case nan => simp only [floatSqrt, ha]
  case inf_inf =>
    refine ⟨by simp only [floatAdd, addVals, ha, hb], ?_, by simp only [floatMul, ha, hb],
      by simp only [floatDiv, ha, hb]⟩
    cases p <;> cases q <;> simp [floatSub, addVals, FloatVal.negated, ha, hb]
  case inf_fin | fin_inf =>
    simp only [floatAdd, floatSub, floatMul, floatDiv, addVals, FloatVal.negated, ha, hb, and_self]
  case fin_fin =>
    rw [floatMul_of_fin ha hb, floatSub_of_fin ha hb, floatAdd, ha, hb]
    refine ⟨?_, ?_, ?_, ?_, ?_, ?_, ?_⟩
    · rintro (rfl | rfl)
      · rw [Nat.zero_mul, roundUnits_zero]
      · rw [Nat.mul_zero, roundUnits_zero]
    · rintro rfl
      exact floatDiv_of_fin_zero ha hb
    · rintro rfl hn
      rw [floatDiv_of_fin ha hb hn, Nat.zero_mul, roundUnits_zero]
    · rintro rfl rfl
      exact addVals_opposite _ _ _ _
    · rintro rfl hne
      obtain rfl := Bool.eq_not.2 hne.symm
      exact addVals_opposite _ _ _ _
    · rintro rfl rfl rfl
      rw [addVals_zeros, Bool.and_self]
    · rintro rfl rfl hne
      rw [addVals_zeros, ← Bool.eq_not.2 hne, Bool.and_self]
  case sqrt_fin =>
    refine ⟨fun hm => ?_, fun hm hp => ?_⟩
    · simp only [floatSqrt, ha, hm, if_true]
    · simp only [floatSqrt, ha, hm, hp, if_true, if_false]
  case sqrt_inf => simp only [floatSqrt, ha]

/-! Correct rounding of the four operations. -/

theorem ratOf_fin_eq_zero_iff (fmt : FloatFormat) (s : Bool) (m : Nat) : ratOf fmt (.fin s m) = 0 ↔ m = 0 := by
  simp [ratOf_fin, signedUnit_ne_zero]

theorem ratOf_fin_not (fmt : FloatFormat) (s : Bool) (m : Nat) : ratOf fmt (.fin (!s) m) = -ratOf fmt (.fin s m) := by
  rw [ratOf_fin, ratOf_fin, signedUnit_not, neg_mul]

/-- A signed number of units is its magnitude in units of its sign. -/
theorem signedUnit_mul_natAbs_units (fmt : FloatFormat) (n : Int) :
    signedUnit fmt (decide (n < 0)) * (n.natAbs : ℚ) = n / 2 ^ unitExp fmt := by
  have h := signedUnit_mul_natAbs fmt n
  push_cast at h
  rw [← mul_assoc] at h
  exact eq_div_of_mul_eq (by positivity) h

theorem ratOf_add_ratOf (fmt : FloatFormat) (s t : Bool) (m n : Nat) :
    ratOf fmt (.fin s m) + ratOf fmt (.fin t n) = ((signedMag s m + signedMag t n : Int) : ℚ) / 2 ^ unitExp fmt := by
  rw [ratOf, ratOf, Int.cast_add, add_div]

/-- A non-zero sum of finite values is the exact sum rounded. -/
theorem addVals_fin_roundedTo {fmt : FloatFormat} {w : Nat} (hw : FillsWidth fmt w) {s t : Bool} {m n : Nat}
    (h : ratOf fmt (.fin s m) + ratOf fmt (.fin t n) ≠ 0) :
    RoundedTo fmt (ratOf fmt (.fin s m) + ratOf fmt (.fin t n)) (addVals fmt w (.fin s m) (.fin t n)) := by
  rw [ratOf_add_ratOf] at h ⊢
  have hsum : signedMag s m + signedMag t n ≠ 0 := fun h0 => h (by rw [h0]; simp)
  have hround := roundUnits_roundedTo hw (decide (signedMag s m + signedMag t n < 0)) _ 1 (Int.natAbs_pos.2 hsum)
    one_pos
  rwa [Nat.cast_one, div_one, signedUnit_mul_natAbs_units, ← addVals_fin_of_sum_ne_zero fmt w hsum] at hround

/-- The sign of a product or quotient is the XOR of the signs. -/
theorem signedUnit_xor (fmt : FloatFormat) (s t : Bool) :
    signedUnit fmt (s ^^ t) = signedUnit fmt s * signedUnit fmt t * 2 ^ unitExp fmt := by
  cases s <;> cases t <;> simp [signedUnit, div_eq_mul_inv]

theorem signedUnit_mul_product (fmt : FloatFormat) (s t : Bool) (m n : Nat) :
    signedUnit fmt (s ^^ t) * (((m * n : Nat) : ℚ) / (2 ^ unitExp fmt : Nat)) =
      ratOf fmt (.fin s m) * ratOf fmt (.fin t n) := by
  rw [signedUnit_xor, ratOf_fin, ratOf_fin]
  push_cast
  field_simp

theorem signedUnit_mul_self (fmt : FloatFormat) (t : Bool) :
    signedUnit fmt t * signedUnit fmt t = 1 / 2 ^ unitExp fmt / 2 ^ unitExp fmt := by
  cases t <;> simp [signedUnit, div_eq_mul_inv]

theorem signedUnit_mul_quotient (fmt : FloatFormat) (s t : Bool) (m n : Nat) (hn : n ≠ 0) :
    signedUnit fmt (s ^^ t) * (((m * 2 ^ unitExp fmt : Nat) : ℚ) / n) =
      ratOf fmt (.fin s m) / ratOf fmt (.fin t n) := by
  have hn' : (n : ℚ) ≠ 0 := by exact_mod_cast hn
  have ht := signedUnit_ne_zero fmt t
  have hsq := signedUnit_mul_self fmt t
  rw [signedUnit_xor, ratOf_fin, ratOf_fin]
  push_cast
  field_simp at hsq ⊢
  linear_combination (signedUnit fmt s * m) * hsq

/-- Settles O30: the exact result is the fraction of units the lane operation rounds. -/
theorem floatArithmeticIsCorrectlyRounded : Obligations.FloatArithmeticIsCorrectlyRounded := by
  rintro f hf a b ⟨s, m, ha⟩ ⟨t, n, hb⟩
  have hw := floatFormats_fillsWidth hf
  rw [floatAdd, floatSub_of_fin ha hb, floatMul_of_fin ha hb, ha, hb, sub_eq_add_neg, ← ratOf_fin_not,
    mul_ne_zero_iff, ne_eq, ne_eq, ne_eq, ne_eq, ratOf_fin_eq_zero_iff, ratOf_fin_eq_zero_iff]
  refine ⟨addVals_fin_roundedTo hw, addVals_fin_roundedTo hw, fun ⟨hm, hn⟩ => ?_, fun hm hn => ?_⟩
  · rw [← signedUnit_mul_product]
    exact roundUnits_roundedTo hw _ _ _ (Nat.mul_pos (by omega) (by omega)) (Nat.two_pow_pos _)
  · rw [floatDiv_of_fin ha hb hn, ← signedUnit_mul_quotient _ _ _ _ _ hn]
    exact roundUnits_roundedTo hw _ _ _ (Nat.mul_pos (by omega) (Nat.two_pow_pos _)) (by omega)

end Sys2Proof.Machine
end

section
/-! PROOFS. Minimum and maximum of float lanes (42_arithmetic.md R108 to R111).

Without a NaN the machine's order is that of the extended real values, so `floatMin` and `floatMax` choose by that
order, and by the sign bit of the first operand between two zeros. -/
namespace Sys2Proof.Machine

/-! The machine's order and zero test are those of the extended real values. -/

/-- The order of finite values is that of their signed units. -/
theorem extOf_fin_le_iff (fmt : FloatFormat) (s t : Bool) (m n : Nat) :
    extOf fmt (.fin s m) ≤ extOf fmt (.fin t n) ↔ signedMag s m ≤ signedMag t n := by
  rw [extOf, extOf, WithBot.coe_le_coe, WithTop.coe_le_coe, ratOf, ratOf, div_le_div_iff_of_pos_right (by positivity),
    Int.cast_le]

/-- The machine's order is that of the extended real values (44_compare.md R140). -/
theorem leVals_eq_true_iff (fmt : FloatFormat) {x y : FloatVal} (hx : x ≠ .nan) (hy : y ≠ .nan) :
    leVals x y = true ↔ extOf fmt x ≤ extOf fmt y := by
  cases x with
  | nan => exact absurd rfl hx
  | inf s =>
    cases y with
    | nan => exact absurd rfl hy
    | inf t => cases s <;> cases t <;> simp [leVals, extOf]
    | fin t n => cases s <;> simp [leVals, extOf]
  | fin s m =>
    cases y with
    | nan => exact absurd rfl hy
    | inf t => cases t <;> simp [leVals, extOf]
    | fin t n => rw [extOf_fin_le_iff, leVals, decide_eq_true_iff]

theorem isZeroVal_eq_true_iff (fmt : FloatFormat) {x : FloatVal} (hx : x ≠ .nan) :
    isZeroVal x = true ↔ extOf fmt x = 0 := by
  cases x with
  | nan => exact absurd rfl hx
  | inf s =>
    cases s
    · exact iff_of_false Bool.false_ne_true fun h => WithTop.top_ne_zero (WithBot.coe_injective h)
    · simp [isZeroVal, extOf]
  | fin s m => simp [isZeroVal, extOf, ratOf_fin, signedUnit_ne_zero]

/-! The minimum and the maximum without a NaN. -/

section
variable {fmt : FloatFormat} {w : Nat} {a b : BitVec w}

/-- Where not both operands are zeros, `floatMin` is A exactly where A is at or below B. -/
theorem floatMin_of_ordered (ha : fval fmt a ≠ .nan) (hb : fval fmt b ≠ .nan)
    (h0 : ¬ (extOf fmt (fval fmt a) = 0 ∧ extOf fmt (fval fmt b) = 0)) :
    floatMin fmt a b = if extOf fmt (fval fmt a) ≤ extOf fmt (fval fmt b) then a else b := by
  rw [← isZeroVal_eq_true_iff fmt ha, ← isZeroVal_eq_true_iff fmt hb, ← Bool.and_eq_true] at h0
  simp only [floatMin, floatLe, (isNaN_eq_false_iff fmt _).2 ha, (isNaN_eq_false_iff fmt _).2 hb, Bool.or_self, h0,
    Bool.false_eq_true, if_false, leVals_eq_true_iff fmt ha hb]

theorem floatMax_of_ordered (ha : fval fmt a ≠ .nan) (hb : fval fmt b ≠ .nan)
    (h0 : ¬ (extOf fmt (fval fmt a) = 0 ∧ extOf fmt (fval fmt b) = 0)) :
    floatMax fmt a b = if extOf fmt (fval fmt b) ≤ extOf fmt (fval fmt a) then a else b := by
  rw [← isZeroVal_eq_true_iff fmt ha, ← isZeroVal_eq_true_iff fmt hb, ← Bool.and_eq_true] at h0
  simp only [floatMax, floatLe, (isNaN_eq_false_iff fmt _).2 ha, (isNaN_eq_false_iff fmt _).2 hb, Bool.or_self, h0,
    Bool.false_eq_true, if_false, leVals_eq_true_iff fmt hb ha]

/-- Two zeros are told apart by the sign bit of A. -/
theorem floatMin_floatMax_of_zeros (ha : fval fmt a ≠ .nan) (hb : fval fmt b ≠ .nan)
    (ha0 : extOf fmt (fval fmt a) = 0) (hb0 : extOf fmt (fval fmt b) = 0) :
    floatMin fmt a b = (if a.msb then a else b) ∧ floatMax fmt a b = (if a.msb then b else a) := by
  rw [← isZeroVal_eq_true_iff fmt ha] at ha0
  rw [← isZeroVal_eq_true_iff fmt hb] at hb0
  simp only [floatMin, floatMax, (isNaN_eq_false_iff fmt _).2 ha, (isNaN_eq_false_iff fmt _).2 hb, ha0, hb0,
    Bool.or_self, Bool.and_self, Bool.false_eq_true, if_false, if_true, and_self]

theorem exists_fin_zero_of_extOf_eq_zero (ha : fval fmt a ≠ .nan) (h : extOf fmt (fval fmt a) = 0) :
    fval fmt a = .fin a.msb 0 := by
  rw [← isZeroVal_eq_true_iff fmt ha] at h
  cases hv : fval fmt a with
  | nan => exact absurd hv ha
  | inf s => simp [hv, isZeroVal] at h
  | fin s m =>
    rw [msb_of_fval_fin hv]
    simpa [hv, isZeroVal] using h

end

/-- Settles O36: `floatMin` and `floatMax` follow the order of the extended real values, and the sign between zeros. -/
theorem floatMinMaxCases : Obligations.FloatMinMaxCases := by
  intro f _ a b
  refine ⟨fun h => ?_, fun ha hb => ?_, fun ha hb => ?_, fun ha hb => ?_, fun ha hb => ⟨?_, ?_, fun hlt => ?_,
    fun hlt => ?_, fun heq hne => ?_, fun ha0 hb0 => ?_⟩⟩
  · have hnan : (isNaN f.1 a || isNaN f.1 b) = true := by simpa [isNaN_eq_true_iff] using h
    exact ⟨if_pos hnan, if_pos hnan⟩
  · simp [floatMinNum, floatMaxNum, (isNaN_eq_true_iff f.1 _).2, ha, hb]
  · simp [floatMinNum, floatMaxNum, (isNaN_eq_true_iff f.1 _).2 ha, (isNaN_eq_false_iff f.1 _).2 hb]
  · simp [floatMinNum, floatMaxNum, (isNaN_eq_false_iff f.1 _).2 ha, (isNaN_eq_true_iff f.1 _).2 hb]
  · simp [floatMinNum, (isNaN_eq_false_iff f.1 _).2 ha, (isNaN_eq_false_iff f.1 _).2 hb]
  · simp [floatMaxNum, (isNaN_eq_false_iff f.1 _).2 ha, (isNaN_eq_false_iff f.1 _).2 hb]
  · have h0 : ¬ (extOf f.1 (fval f.1 a) = 0 ∧ extOf f.1 (fval f.1 b) = 0) := fun h => hlt.ne (h.1.trans h.2.symm)
    rw [floatMin_of_ordered ha hb h0, floatMax_of_ordered ha hb h0, if_pos hlt.le, if_neg hlt.not_ge]
    exact ⟨rfl, rfl⟩
  · have h0 : ¬ (extOf f.1 (fval f.1 a) = 0 ∧ extOf f.1 (fval f.1 b) = 0) := fun h => hlt.ne (h.2.trans h.1.symm)
    rw [floatMin_of_ordered ha hb h0, floatMax_of_ordered ha hb h0, if_neg hlt.not_ge, if_pos hlt.le]
    exact ⟨rfl, rfl⟩
  · have h0 : ¬ (extOf f.1 (fval f.1 a) = 0 ∧ extOf f.1 (fval f.1 b) = 0) := fun h => hne h.1
    rw [floatMin_of_ordered ha hb h0, floatMax_of_ordered ha hb h0, if_pos heq.le, if_pos heq.ge]
    exact ⟨rfl, rfl⟩
  · obtain ⟨hmin, hmax⟩ := floatMin_floatMax_of_zeros ha hb ha0 hb0
    rw [hmin, hmax, exists_fin_zero_of_extOf_eq_zero ha ha0]
    cases a.msb <;> simp

end Sys2Proof.Machine
end

section
/-! PROOFS. The square root of a float lane (42_arithmetic.md R113; 00_scope.md R10).

The exact root is a real number, and the machine compares it with midpoints on squares of naturals. So the number of
quanta taken is within half a quantum of the root (`sqrtQuanta_nearest`), and as in `unboundedPattern_nearest` that
makes it the nearest of all finite values, of which those that are no whole number of quanta lie below the binade. -/
namespace Sys2Proof.Machine

/-! Nearness to a real number. -/

/-- `NearerOrEven` where the exact value is a real number. -/
def NearerOrEvenReal (p : Nat) (x y exact : ℝ) : Prop :=
  |x - exact| ≤ |y - exact| ∧ (|x - exact| = |y - exact| → x ≠ y → p % 2 = 0)

/-- A multiple of the quantum `c` within half a quantum of the exact value is the nearest of all multiples, and ties are
the exact half quanta. -/
theorem nearerOrEvenReal_of_multiples {p : Nat} {k j : ℤ} {c e : ℝ} (hc : 0 < c) (hhalf : |k * c - e| ≤ c / 2)
    (htie : |k * c - e| = c / 2 → p % 2 = 0) : NearerOrEvenReal p (k * c) (j * c) e := by
  rcases eq_or_ne j k with rfl | hne
  · exact ⟨le_rfl, fun _ h => absurd rfl h⟩
  have hgap : c ≤ |(j : ℝ) * c - k * c| := by
    rw [← sub_mul, abs_mul, abs_of_pos hc]
    exact le_mul_of_one_le_left hc.le (by exact_mod_cast Int.one_le_abs (sub_ne_zero.2 hne))
  have htri := abs_sub_le ((j : ℝ) * c) e (k * c)
  rw [abs_sub_comm e] at htri
  exact ⟨by linarith, fun heq _ => htie (by linarith)⟩

theorem NearerOrEvenReal.of_lt {p : Nat} {x y z e : ℝ} (h : NearerOrEvenReal p x z e) (hlt : |z - e| < |y - e|) :
    NearerOrEvenReal p x y e :=
  ⟨h.1.trans hlt.le, fun heq => absurd heq (h.1.trans_lt hlt).ne⟩

/-! The integer square root and the natural nearest to a real square root. -/

/-- `isqrt` of the quotient is the whole part of the real square root of the fraction. -/
theorem floor_sqrt_div (n d : Nat) (hd : 0 < d) : ⌊√((n : ℝ) / d)⌋₊ = isqrt (n / d) := by
  obtain ⟨hlow, hhigh⟩ := isqrt_spec (n / d)
  rw [Nat.le_div_iff_mul_le hd] at hlow
  rw [Nat.div_lt_iff_lt_mul hd] at hhigh
  have hdr : (0 : ℝ) < d := by exact_mod_cast hd
  rw [Nat.floor_eq_iff (Real.sqrt_nonneg _)]
  constructor
  · refine Real.le_sqrt_of_sq_le ?_
    rw [le_div_iff₀ hdr, sq]
    exact_mod_cast hlow
  · rw [Real.sqrt_lt' (by positivity), div_lt_iff₀ hdr, sq]
    exact_mod_cast hhigh

/-- The comparison with the midpoint `k + 1/2` is made on squares. -/
theorem midpoint_lt_sqrt_iff (n d k : Nat) (hd : 0 < d) :
    (k : ℝ) + 1 / 2 < √((n : ℝ) / d) ↔ (2 * k + 1) * (2 * k + 1) * d < 4 * n := by
  have hdr : (0 : ℝ) < d := by exact_mod_cast hd
  rw [Real.lt_sqrt (by positivity), lt_div_iff₀ hdr, ← Nat.cast_lt (α := ℝ)]
  push_cast
  constructor <;> intro h <;> linarith

theorem midpoint_eq_sqrt_iff (n d k : Nat) (hd : 0 < d) :
    (k : ℝ) + 1 / 2 = √((n : ℝ) / d) ↔ (2 * k + 1) * (2 * k + 1) * d = 4 * n := by
  have hdr : (0 : ℝ) < d := by exact_mod_cast hd
  rw [eq_comm, Real.sqrt_eq_iff_eq_sq (by positivity) (by positivity), div_eq_iff hdr.ne', ← Nat.cast_inj (R := ℝ)]
  push_cast
  constructor <;> intro h <;> linarith

/-- `nearestEvenSqrt` is within one half of the real square root, and even where it is a midpoint. -/
theorem nearestEvenSqrt_nearest (n d : Nat) (hd : 0 < d) :
    |(nearestEvenSqrt n d : ℝ) - √((n : ℝ) / d)| ≤ 1 / 2 ∧
      (|(nearestEvenSqrt n d : ℝ) - √((n : ℝ) / d)| = 1 / 2 → nearestEvenSqrt n d % 2 = 0) := by
  obtain ⟨hlow, hhigh⟩ := (Nat.floor_eq_iff (Real.sqrt_nonneg _)).1 (floor_sqrt_div n d hd)
  have hlt := midpoint_lt_sqrt_iff n d (isqrt (n / d)) hd
  have heq := midpoint_eq_sqrt_iff n d (isqrt (n / d)) hd
  unfold nearestEvenSqrt
  simp only [← hlt, ← heq]
  split
  next h =>
    push_cast
    have hmid : (isqrt (n / d) : ℝ) + 1 / 2 ≤ √((n : ℝ) / d) := h.elim le_of_lt fun h => h.1.le
    rw [abs_of_pos (by linarith)]
    refine ⟨by linarith, fun htie => ?_⟩
    obtain hlt | ⟨-, hodd⟩ := h
    · linarith
    · omega
  next h =>
    rw [not_or, not_lt, not_and] at h
    obtain ⟨hmid, hodd⟩ := h
    rw [abs_of_nonpos (by linarith)]
    exact ⟨by linarith, fun htie => Nat.mod_two_ne_one.1 (hodd (by linarith))⟩

/-! The nearest pattern to a real square root, without an upper end. -/

/-- The quantum of `√(n / d)` units is `2^sqrtQuantumExp` units. -/
def sqrtQuantumExp (fmt : FloatFormat) (n d : Nat) : Nat := Nat.log2 (isqrt (n / d)) - fmt.fracBits

/-- The number of quanta nearest to `√(n / d)` units. -/
def sqrtQuanta (fmt : FloatFormat) (n d : Nat) : Nat := nearestEvenSqrt n (d * 2 ^ (2 * sqrtQuantumExp fmt n d))

/-- The pattern `roundSqrtPattern` takes before it looks for overflow. -/
def unboundedSqrtPattern (fmt : FloatFormat) (n d : Nat) : Nat :=
  sqrtQuantumExp fmt n d * 2 ^ fmt.fracBits + sqrtQuanta fmt n d

theorem roundSqrtPattern_eq_min (fmt : FloatFormat) (n d : Nat) :
    roundSqrtPattern fmt n d = min (infPattern fmt) (unboundedSqrtPattern fmt n d) := rfl

section
variable (fmt : FloatFormat) (n : Nat) {d : Nat} (hd : 0 < d)
include hd

/-- The root is below `2^(fracBits + 1)` quanta. -/
theorem sqrt_lt_quanta : √((n : ℝ) / d) < 2 * 2 ^ fmt.fracBits * 2 ^ sqrtQuantumExp fmt n d := by
  obtain ⟨-, hhigh⟩ := (Nat.floor_eq_iff (Real.sqrt_nonneg _)).1 (floor_sqrt_div n d hd)
  have hexp : Nat.log2 (isqrt (n / d)) + 1 ≤ 1 + fmt.fracBits + sqrtQuantumExp fmt n d := by
    unfold sqrtQuantumExp; omega
  have hlog : isqrt (n / d) + 1 ≤ 2 * 2 ^ fmt.fracBits * 2 ^ sqrtQuantumExp fmt n d :=
    calc isqrt (n / d) + 1 ≤ 2 ^ (Nat.log2 (isqrt (n / d)) + 1) := Nat.lt_log2_self
      _ ≤ 2 ^ (1 + fmt.fracBits + sqrtQuantumExp fmt n d) := Nat.pow_le_pow_right (by decide) hexp
      _ = 2 * 2 ^ fmt.fracBits * 2 ^ sqrtQuantumExp fmt n d := by ring
  exact hhigh.trans_le (by exact_mod_cast hlog)

/-- Above the subnormal range it is at least `2^fracBits` quanta. -/
theorem quanta_le_sqrt (hq : sqrtQuantumExp fmt n d ≠ 0) :
    2 ^ fmt.fracBits * 2 ^ sqrtQuantumExp fmt n d ≤ √((n : ℝ) / d) := by
  obtain ⟨hlow, -⟩ := (Nat.floor_eq_iff (Real.sqrt_nonneg _)).1 (floor_sqrt_div n d hd)
  have hexp : fmt.fracBits + sqrtQuantumExp fmt n d = Nat.log2 (isqrt (n / d)) := by unfold sqrtQuantumExp at *; omega
  have hne : isqrt (n / d) ≠ 0 := by
    intro h
    simp [sqrtQuantumExp, h] at hq
  have hlog : 2 ^ fmt.fracBits * 2 ^ sqrtQuantumExp fmt n d ≤ isqrt (n / d) := by
    rw [← pow_add, hexp]
    exact Nat.log2_self_le hne
  exact le_trans (by exact_mod_cast hlog) hlow

/-- The quanta taken are within half a quantum of the root, and even at an exact half. -/
theorem sqrtQuanta_nearest :
    |(sqrtQuanta fmt n d : ℝ) * 2 ^ sqrtQuantumExp fmt n d - √((n : ℝ) / d)| ≤ 2 ^ sqrtQuantumExp fmt n d / 2 ∧
      (|(sqrtQuanta fmt n d : ℝ) * 2 ^ sqrtQuantumExp fmt n d - √((n : ℝ) / d)| = 2 ^ sqrtQuantumExp fmt n d / 2 →
        sqrtQuanta fmt n d % 2 = 0) := by
  have hc : (0 : ℝ) < 2 ^ sqrtQuantumExp fmt n d := by positivity
  have hroot : √((n : ℝ) / (d * 2 ^ (2 * sqrtQuantumExp fmt n d) : Nat)) =
      √((n : ℝ) / d) / 2 ^ sqrtQuantumExp fmt n d := by
    rw [Nat.cast_mul, ← div_div, Real.sqrt_div (by positivity), Nat.cast_pow, Nat.cast_ofNat, Nat.mul_comm, pow_mul,
      Real.sqrt_sq hc.le]
  have hnear := nearestEvenSqrt_nearest n _ (Nat.mul_pos hd (Nat.two_pow_pos (2 * sqrtQuantumExp fmt n d)))
  rw [hroot, ← sqrtQuanta] at hnear
  have hdist : |(sqrtQuanta fmt n d : ℝ) * 2 ^ sqrtQuantumExp fmt n d - √((n : ℝ) / d)| =
      |(sqrtQuanta fmt n d : ℝ) - √((n : ℝ) / d) / 2 ^ sqrtQuantumExp fmt n d| * 2 ^ sqrtQuantumExp fmt n d := by
    rw [← abs_of_pos hc, ← abs_mul, abs_of_pos hc, sub_mul, div_mul_cancel₀ _ hc.ne']
  rw [hdist]
  exact ⟨by linarith [mul_le_mul_of_nonneg_right hnear.1 hc.le],
    fun h => hnear.2 (mul_right_cancel₀ hc.ne' (h.trans (by ring)))⟩

theorem sqrtQuanta_le : sqrtQuanta fmt n d ≤ 2 * 2 ^ fmt.fracBits := by
  have hc : (0 : ℝ) < 2 ^ sqrtQuantumExp fmt n d := by positivity
  have hnear := (abs_le.1 (sqrtQuanta_nearest fmt n hd).1).2
  have hlt := sqrt_lt_quanta fmt n hd
  have h : (sqrtQuanta fmt n d : ℝ) < 2 * 2 ^ fmt.fracBits + 1 := lt_of_mul_lt_mul_right (by linarith) hc.le
  exact Nat.lt_succ_iff.1 (by exact_mod_cast h)

theorem le_sqrtQuanta (hq : sqrtQuantumExp fmt n d ≠ 0) : 2 ^ fmt.fracBits ≤ sqrtQuanta fmt n d := by
  have hc : (0 : ℝ) < 2 ^ sqrtQuantumExp fmt n d := by positivity
  have hnear := (abs_le.1 (sqrtQuanta_nearest fmt n hd).1).1
  have hle := quanta_le_sqrt fmt n hd hq
  have h : (2 : ℝ) ^ fmt.fracBits < sqrtQuanta fmt n d + 1 := lt_of_mul_lt_mul_right (by linarith) hc.le
  exact Nat.lt_succ_iff.1 (by exact_mod_cast h)

theorem patternMag_unboundedSqrtPattern : patternMag fmt (unboundedSqrtPattern fmt n d) =
    sqrtQuanta fmt n d * 2 ^ sqrtQuantumExp fmt n d := by
  refine patternMag_scaled fmt _ _ (sqrtQuanta_le fmt n hd) ?_
  rcases eq_or_ne (sqrtQuantumExp fmt n d) 0 with hq | hq
  · exact .inl hq
  · exact .inr (le_sqrtQuanta fmt n hd hq)

end

theorem unboundedSqrtPattern_mod_two (fmt : FloatFormat) (hf : 0 < fmt.fracBits) (n d : Nat) :
    unboundedSqrtPattern fmt n d % 2 = sqrtQuanta fmt n d % 2 := by
  have heven : 2 ∣ sqrtQuantumExp fmt n d * 2 ^ fmt.fracBits := (dvd_pow_self 2 hf.ne').mul_left _
  unfold unboundedSqrtPattern
  omega

/-- `patternMag_multiple_or_lt` for values of either sign. -/
theorem signedMag_patternMag_multiple_or_lt (fmt : FloatFormat) (q : Nat) (s : Bool) (p : Nat) :
    (∃ j : ℤ, signedMag s (patternMag fmt p) = j * 2 ^ q) ∨
      (q ≠ 0 ∧ signedMag s (patternMag fmt p) < 2 ^ fmt.fracBits * 2 ^ q) := by
  rcases patternMag_multiple_or_lt fmt q p with ⟨j, hj⟩ | ⟨hq, hlt⟩
  · exact .inl ⟨signedMag s j, by rw [hj]; cases s <;> simp [signedMag]⟩
  · have hlt' : (patternMag fmt p : ℤ) < 2 ^ fmt.fracBits * 2 ^ q := by exact_mod_cast hlt
    refine .inr ⟨hq, lt_of_le_of_lt ?_ hlt'⟩
    cases s <;> simp [signedMag]

/-- Among the finite values of both signs, the value taken is the nearest to the root. -/
theorem unboundedSqrtPattern_nearest (fmt : FloatFormat) (hf : 0 < fmt.fracBits) (n d : Nat) (hd : 0 < d) (s : Bool)
    (p : Nat) : NearerOrEvenReal (unboundedSqrtPattern fmt n d)
      (signedMag false (patternMag fmt (unboundedSqrtPattern fmt n d))) (signedMag s (patternMag fmt p))
      √((n : ℝ) / d) := by
  rw [signedMag_false, Int.cast_natCast]
  obtain ⟨hhalf, htie⟩ := sqrtQuanta_nearest fmt n hd
  have hmult : ∀ j : ℤ, NearerOrEvenReal (unboundedSqrtPattern fmt n d)
      (patternMag fmt (unboundedSqrtPattern fmt n d)) (j * 2 ^ sqrtQuantumExp fmt n d) √((n : ℝ) / d) := fun j => by
    rw [patternMag_unboundedSqrtPattern fmt n hd, Nat.cast_mul, Nat.cast_pow, Nat.cast_ofNat, ← Int.cast_natCast]
    refine nearerOrEvenReal_of_multiples (by positivity) hhalf fun h => ?_
    rw [unboundedSqrtPattern_mod_two fmt hf, htie h]
  rcases signedMag_patternMag_multiple_or_lt fmt (sqrtQuantumExp fmt n d) s p with ⟨j, hj⟩ | ⟨hq, hlt⟩
  · rw [hj]
    exact_mod_cast hmult j
  · have hstart := quanta_le_sqrt fmt n hd hq
    have hlt' : ((signedMag s (patternMag fmt p) : ℤ) : ℝ) < 2 ^ fmt.fracBits * 2 ^ sqrtQuantumExp fmt n d := by
      exact_mod_cast hlt
    refine (hmult (2 ^ fmt.fracBits)).of_lt ?_
    push_cast
    rw [abs_of_nonpos (by linarith), abs_of_nonpos (by linarith)]
    linarith

/-- Where twice the root is below the infinity, a bound said on squares, the pattern taken is finite: zero is at most a
root away. -/
theorem unboundedSqrtPattern_lt_infPattern {fmt : FloatFormat} {w : Nat} (hw : FillsWidth fmt w) {n d : Nat}
    (hd : 0 < d) (h : 4 * n < 2 ^ (2 * (unitExp fmt + 2 ^ (fmt.expBits - 1))) * d) :
    unboundedSqrtPattern fmt n d < infPattern fmt := by
  have hmono := patternMag_strictMono fmt
  have hinf : (0 : ℝ) < patternMag fmt (infPattern fmt) := by
    exact_mod_cast (hmono (infPattern_pos fmt hw.two_le_expBits)).pos
  have hroot : √((n : ℝ) / d) < patternMag fmt (infPattern fmt) / 2 := by
    rw [Nat.mul_comm 2, pow_mul, ← patternMag_infPattern fmt hw.two_le_expBits] at h
    have h' : 4 * (n : ℝ) < (patternMag fmt (infPattern fmt) : ℝ) ^ 2 * d := by exact_mod_cast h
    rw [Real.sqrt_lt' (half_pos hinf), div_lt_iff₀ (by exact_mod_cast hd)]
    linarith
  have hzero := (unboundedSqrtPattern_nearest fmt hw.fracBits_pos n d hd false 0).1
  rw [patternMag_zero, signedMag_zero, signedMag_false, Int.cast_natCast, Int.cast_zero, zero_sub, abs_neg,
    abs_of_nonneg (Real.sqrt_nonneg _)] at hzero
  have hlt : (patternMag fmt (unboundedSqrtPattern fmt n d) : ℝ) < patternMag fmt (infPattern fmt) := by
    linarith [(abs_le.1 hzero).2]
  exact hmono.lt_iff_lt.1 (by exact_mod_cast hlt)

theorem fval_roundSqrt {fmt : FloatFormat} {w : Nat} (hw : FillsWidth fmt w) {n d : Nat}
    (h : unboundedSqrtPattern fmt n d < infPattern fmt) :
    fval fmt (withSign fmt w false (roundSqrtPattern fmt n d)) =
      .fin false (patternMag fmt (unboundedSqrtPattern fmt n d)) := by
  rw [roundSqrtPattern_eq_min, min_eq_right h.le, fval_withSign_of_lt hw false h]

/-! The square root of a lane (42_arithmetic.md R113). -/

/-- The root of a value, `m` units, is that of `m * 2^unitExp`, in units. -/
theorem sqrt_ratOf_fin (fmt : FloatFormat) (m : Nat) :
    √((ratOf fmt (.fin false m) : ℚ) : ℝ) = √(((m * 2 ^ unitExp fmt : Nat) : ℝ) / (1 : Nat)) / 2 ^ unitExp fmt := by
  have hunit : (0 : ℝ) < 2 ^ unitExp fmt := by positivity
  have hsq : ((ratOf fmt (.fin false m) : ℚ) : ℝ) =
      ((m * 2 ^ unitExp fmt : Nat) : ℝ) / (1 : Nat) / (2 ^ unitExp fmt) ^ 2 := by
    simp only [ratOf, signedMag, Bool.false_eq_true, if_false]
    push_cast
    field_simp
  rw [hsq, Real.sqrt_div (by positivity), Real.sqrt_sq hunit.le]

/-- The distance of a finite value from a real number, counted in units. -/
theorem abs_ratOf_sub (fmt : FloatFormat) (s : Bool) (m : Nat) (x : ℝ) :
    |((ratOf fmt (.fin s m) : ℚ) : ℝ) - x / 2 ^ unitExp fmt| = |(signedMag s m : ℝ) - x| / 2 ^ unitExp fmt := by
  rw [ratOf, Rat.cast_div, Rat.cast_pow, Rat.cast_ofNat, Rat.cast_intCast, ← sub_div, abs_div,
    abs_of_pos (by positivity : (0 : ℝ) < 2 ^ unitExp fmt)]

theorem unboundedSqrtPattern_lt_infPattern_of_fval_fin {fmt : FloatFormat} {w : Nat} (hw : FillsWidth fmt w)
    {a : BitVec w} {s : Bool} {m : Nat} (ha : fval fmt a = .fin s m) :
    unboundedSqrtPattern fmt (m * 2 ^ unitExp fmt) 1 < infPattern fmt := by
  obtain ⟨p, hp, rfl⟩ := exists_finitePattern_of_fval_fin ha
  have hmag := patternMag_strictMono fmt hp
  rw [patternMag_infPattern fmt hw.two_le_expBits] at hmag
  have hbias : 2 ≤ 2 ^ (fmt.expBits - 1) := Nat.le_self_pow (by have := hw.two_le_expBits; omega) 2
  refine unboundedSqrtPattern_lt_infPattern hw one_pos ?_
  calc 4 * (patternMag fmt p * 2 ^ unitExp fmt)
      < 4 * (2 ^ (unitExp fmt + 2 ^ (fmt.expBits - 1)) * 2 ^ unitExp fmt) :=
        Nat.mul_lt_mul_of_pos_left (Nat.mul_lt_mul_of_pos_right hmag (Nat.two_pow_pos _)) (by decide)
    _ = 2 ^ (2 * unitExp fmt + 2 ^ (fmt.expBits - 1) + 2) := by ring
    _ ≤ 2 ^ (2 * (unitExp fmt + 2 ^ (fmt.expBits - 1))) * 1 := by
        rw [mul_one]; exact Nat.pow_le_pow_right (by decide) (by omega)

/-- Settles O31: the pattern `floatSqrt` takes is the nearest in units, and the statement measures the same distances as
values. -/
theorem squareRootIsCorrectlyRounded : Obligations.SquareRootIsCorrectlyRounded := by
  intro f hf a m ha hm
  have hw := floatFormats_fillsWidth hf
  have hlt := unboundedSqrtPattern_lt_infPattern_of_fval_fin hw ha
  have hfin := fval_roundSqrt hw hlt
  rw [← floatSqrt_of_pos ha hm] at hfin
  refine ⟨⟨_, _, hfin⟩, msb_of_fval_fin hfin, ?_⟩
  rintro y ⟨s, k, hy⟩
  obtain ⟨p, rfl⟩ := exists_patternMag_of_fval_fin hy
  obtain ⟨hnear, htie⟩ := unboundedSqrtPattern_nearest f.1 hw.fracBits_pos (m * 2 ^ unitExp f.1) 1 one_pos s p
  have hunit : (0 : ℝ) < 2 ^ unitExp f.1 := by positivity
  rw [hfin, hy, ha, sqrt_ratOf_fin, abs_ratOf_sub, abs_ratOf_sub, div_le_div_iff_of_pos_right hunit,
    div_left_inj' hunit.ne', floatSqrt_of_pos ha hm, withSign_toNat_mod_two hw _ (roundSqrtPattern_le _ _ _),
    roundSqrtPattern_eq_min, min_eq_right hlt.le]
  refine ⟨hnear, fun heq hne => htie heq fun hval => hne ?_⟩
  rw [ratOf, ratOf, Int.cast_inj.1 hval]

end Sys2Proof.Machine
end

section
/-! PROOFS. The reciprocal approximations (42_arithmetic.md R114, R115; 00_scope.md R5).

What the rules ask of an answer for a finite non-zero operand is `RcpNear` and `RsqrtNear`, and the machine's tests on
naturals say the same (`rcpAdmissible_iff`, `rsqrtAdmissible_iff`). So a conforming answer of a build function is kept,
and what the filter puts in place of any other is the correctly rounded value, which is within half a quantum and so
within the relative error wherever it is normal (log 4). -/
namespace Sys2Proof.Machine

/-! The relative error of 2^-12 (00_scope.md R5). -/

/-- The relative error bounds a number of units from below and from above. -/
theorem abs_sub_le_relErr_iff {K : Type*} [Field K] [LinearOrder K] [IsStrictOrderedRing K] (n x : K) :
    |n - x| ≤ 1 / 2 ^ 12 * x ↔
      ((relErrScale - 1 : Nat) : K) * x ≤ relErrScale * n ∧ relErrScale * n ≤ ((relErrScale + 1 : Nat) : K) * x := by
  rw [abs_le, show relErrScale - 1 = 4095 from rfl, show relErrScale + 1 = 4097 from rfl,
    show relErrScale = 4096 from rfl]
  push_cast
  constructor
  · rintro ⟨hlow, hhigh⟩
    constructor <;> linarith
  · rintro ⟨hlow, hhigh⟩
    constructor <;> linarith

/-- A fraction of naturals within the relative error, said on naturals. -/
theorem abs_sub_div_le_relErr_iff {n m N : Nat} (hm : 0 < m) :
    |(n : ℚ) - N / m| ≤ 1 / 2 ^ 12 * (N / m) ↔
      (relErrScale - 1) * N ≤ relErrScale * (n * m) ∧ relErrScale * (n * m) ≤ (relErrScale + 1) * N := by
  have hm' : (0 : ℚ) < m := by exact_mod_cast hm
  rw [abs_sub_le_relErr_iff, ← mul_div_assoc, ← mul_div_assoc, div_le_iff₀ hm', le_div_iff₀ hm', mul_assoc]
  norm_cast

/-- The square root of a fraction of naturals within the relative error, said on the squares. -/
theorem abs_sub_sqrt_le_relErr_iff {n m N : Nat} (hm : 0 < m) :
    |(n : ℝ) - √(N / m)| ≤ 1 / 2 ^ 12 * √(N / m) ↔
      (relErrScale - 1) ^ 2 * N ≤ relErrScale ^ 2 * (n ^ 2 * m) ∧
        relErrScale ^ 2 * (n ^ 2 * m) ≤ (relErrScale + 1) ^ 2 * N := by
  have hm' : (0 : ℝ) < m := by exact_mod_cast hm
  have hlow := sq_le_sq₀ (a := ((relErrScale - 1 : Nat) : ℝ) * √(N / m)) (b := relErrScale * n) (by positivity)
    (by positivity)
  have hhigh := sq_le_sq₀ (a := (relErrScale : ℝ) * n) (b := (relErrScale + 1 : Nat) * √(N / m)) (by positivity)
    (by positivity)
  rw [abs_sub_le_relErr_iff, ← hlow, ← hhigh, mul_pow, mul_pow, mul_pow, Real.sq_sqrt (by positivity),
    ← mul_div_assoc, ← mul_div_assoc, div_le_iff₀ hm', le_div_iff₀ hm', mul_assoc]
  norm_cast

/-! What rounding leaves of the relative error. -/

/-- Half a quantum is a relative error of at most 2^-12 from the first normal value on. -/
theorem half_quantum_le_relErr {K : Type*} [Field K] [LinearOrder K] [IsStrictOrderedRing K] {fracBits q : Nat} {x : K}
    (hf : 11 ≤ fracBits) (hx : 2 ^ fracBits * 2 ^ q ≤ x) : 2 ^ q / 2 ≤ 1 / 2 ^ 12 * x := by
  have hpow : (2 : K) ^ 11 * 2 ^ q ≤ 2 ^ fracBits * 2 ^ q := by gcongr; norm_num
  linarith

/-- From the first normal value on rounding is within the relative error. -/
theorem abs_unboundedPattern_sub_le_relErr {fmt : FloatFormat} (hf : 11 ≤ fmt.fracBits) {n d : Nat} (hd : 0 < d)
    (h : (2 : ℚ) ^ fmt.fracBits ≤ n / d) :
    |(patternMag fmt (unboundedPattern fmt n d) : ℚ) - n / d| ≤ 1 / 2 ^ 12 * (n / d) := by
  have hdq : (0 : ℚ) < d := by exact_mod_cast hd
  have hc : (0 : ℚ) < 2 ^ quantumExp fmt n d := by positivity
  have hstart : (2 : ℚ) ^ fmt.fracBits * 2 ^ quantumExp fmt n d ≤ n / d := by
    rcases eq_or_ne (quantumExp fmt n d) 0 with hq | hq
    · rwa [hq, pow_zero, mul_one]
    · rw [le_div_iff₀ hdq, mul_assoc, mul_comm _ (d : ℚ)]
      exact_mod_cast quanta_le fmt n d hd hq
  have hhalf := abs_nearestEven_sub_le n _ (Nat.mul_pos hd (Nat.two_pow_pos (quantumExp fmt n d)))
  refine le_trans ?_ (half_quantum_le_relErr hf hstart)
  calc |(patternMag fmt (unboundedPattern fmt n d) : ℚ) - n / d|
      = |(nearestEven n (d * 2 ^ quantumExp fmt n d) : ℚ) - n / (d * 2 ^ quantumExp fmt n d : Nat)| *
          2 ^ quantumExp fmt n d := by
        rw [patternMag_unboundedPattern fmt n d hd, ← abs_of_pos hc, ← abs_mul]
        push_cast
        congr 1
        field_simp
    _ ≤ 1 / 2 * 2 ^ quantumExp fmt n d := mul_le_mul_of_nonneg_right hhalf hc.le
    _ = 2 ^ quantumExp fmt n d / 2 := by ring

theorem abs_unboundedSqrtPattern_sub_le_relErr {fmt : FloatFormat} (hf : 11 ≤ fmt.fracBits) {n d : Nat} (hd : 0 < d)
    (h : (2 : ℝ) ^ fmt.fracBits ≤ √((n : ℝ) / d)) :
    |(patternMag fmt (unboundedSqrtPattern fmt n d) : ℝ) - √((n : ℝ) / d)| ≤ 1 / 2 ^ 12 * √((n : ℝ) / d) := by
  have hstart : (2 : ℝ) ^ fmt.fracBits * 2 ^ sqrtQuantumExp fmt n d ≤ √((n : ℝ) / d) := by
    rcases eq_or_ne (sqrtQuantumExp fmt n d) 0 with hq | hq
    · rwa [hq, pow_zero, mul_one]
    · exact quanta_le_sqrt fmt n hd hq
  refine le_trans ?_ (half_quantum_le_relErr hf hstart)
  rw [patternMag_unboundedSqrtPattern fmt n hd, Nat.cast_mul, Nat.cast_pow, Nat.cast_ofNat]
  exact (sqrtQuanta_nearest fmt n hd).1

/-- Below the first normal value rounding does not go beyond it. -/
theorem patternMag_unboundedPattern_le {fmt : FloatFormat} (hf : 0 < fmt.fracBits) {n d : Nat} (hd : 0 < d)
    (h : (n : ℚ) / d < 2 ^ fmt.fracBits) : (patternMag fmt (unboundedPattern fmt n d) : ℚ) ≤ 2 ^ fmt.fracBits := by
  have hnear := (unboundedPattern_nearest fmt hf n d hd (0 * 2 ^ fmt.fracBits + 2 ^ fmt.fracBits)).1
  rw [patternMag_scaled fmt 0 _ (by omega) (.inl rfl), pow_zero, mul_one, Nat.cast_pow, Nat.cast_ofNat,
    abs_of_pos (sub_pos.2 h)] at hnear
  linarith [(abs_le.1 hnear).2]

/-! The reciprocal (42_arithmetic.md R114). -/

/-- What R114 asks of the result `r` for a finite non-zero operand, `q` being the exact reciprocal and `s` its sign. -/
def RcpNear (fmt : FloatFormat) {w : Nat} (q : ℚ) (s : Bool) (r : BitVec w) : Prop :=
  fval fmt r ≠ .nan ∧ r.msb = s ∧
    ((IsFinite fmt r ∧ |ratOf fmt (fval fmt r) - q| ≤ 1 / 2 ^ 12 * |q|) ∨
     (|q| < minNormal fmt ∧ IsFinite fmt r ∧ |ratOf fmt (fval fmt r)| ≤ minNormal fmt) ∨
     (overflowBound fmt ≤ |q| ∧ fval fmt r = .inf s))

/-- The smallest normal value is `2^fracBits` units. -/
theorem minNormal_eq {fmt : FloatFormat} (he : 2 ≤ fmt.expBits) :
    minNormal fmt = 2 ^ fmt.fracBits / 2 ^ unitExp fmt := by
  obtain ⟨m, hm⟩ : ∃ m, 2 ^ (fmt.expBits - 1) = m + 2 := Nat.exists_eq_add_of_le' (Nat.le_self_pow (by omega) 2)
  rw [minNormal, maxExp, unitExp, hm, Nat.add_sub_cancel, show m + 2 - 1 - 1 = m by omega, pow_add]
  field_simp

/-- The exact reciprocal of `m` signed units is `rcpNum / m` of them. -/
theorem one_div_ratOf_fin (fmt : FloatFormat) (s : Bool) (m : Nat) :
    1 / ratOf fmt (.fin s m) = signedUnit fmt s * ((rcpNum fmt : ℚ) / m) := by
  have hinv : signedUnit fmt s * rcpNum fmt = (signedUnit fmt s)⁻¹ := by
    refine eq_inv_of_mul_eq_one_right ?_
    rw [← mul_assoc, signedUnit_mul_self, rcpNum, two_mul, pow_add]
    push_cast
    field_simp
  rw [ratOf_fin, ← mul_div_assoc, hinv, one_div, mul_inv, div_eq_mul_inv]

/-- Values of one sign are as far apart as their units. -/
theorem abs_ratOf_sub_signedUnit_mul (fmt : FloatFormat) (s : Bool) (n : Nat) (x : ℚ) :
    |ratOf fmt (.fin s n) - signedUnit fmt s * x| = |(n : ℚ) - x| / 2 ^ unitExp fmt := by
  rw [ratOf_fin, ← mul_sub, abs_mul]
  cases s <;> simp [signedUnit, div_eq_inv_mul]

section
variable {fmt : FloatFormat} {w : Nat} {r : BitVec w} {s t : Bool} {n : Nat} {x : ℚ}

theorem rcpNear_iff_of_fin (he : 2 ≤ fmt.expBits) (hx : 0 ≤ x) (hr : fval fmt r = .fin t n) :
    RcpNear fmt (signedUnit fmt s * x) s r ↔
      t = s ∧ (|(n : ℚ) - x| ≤ 1 / 2 ^ 12 * x ∨ (x < 2 ^ fmt.fracBits ∧ (n : ℚ) ≤ 2 ^ fmt.fracBits)) := by
  have hunit : (0 : ℚ) < 2 ^ unitExp fmt := by positivity
  have hfin : IsFinite fmt r := ⟨t, n, hr⟩
  rw [RcpNear, msb_of_fval_fin hr]
  refine (and_iff_right (by simp [hr])).trans (and_congr_right ?_)
  rintro rfl
  simp only [hfin, hr, true_and, reduceCtorEq, and_false, or_false]
  rw [abs_ratOf_sub_signedUnit_mul, abs_signedUnit_mul fmt t hx, ratOf_fin, abs_signedUnit_mul fmt t n.cast_nonneg,
    minNormal_eq he, ← mul_div_assoc, div_le_div_iff_of_pos_right hunit, div_lt_div_iff_of_pos_right hunit,
    div_le_div_iff_of_pos_right hunit]

theorem rcpNear_iff_of_inf (he : 2 ≤ fmt.expBits) (hx : 0 ≤ x) (hr : fval fmt r = .inf t) :
    RcpNear fmt (signedUnit fmt s * x) s r ↔ t = s ∧ overflowUnits fmt ≤ x := by
  have hfin : ¬ IsFinite fmt r := fun ⟨u, n, h⟩ => by simp [hr] at h
  rw [RcpNear, msb_of_fval_inf hr]
  refine (and_iff_right (by simp [hr])).trans (and_congr_right ?_)
  rintro rfl
  simp only [hfin, hr, false_and, and_false, false_or, and_true]
  rw [abs_signedUnit_mul fmt t hx, le_div_iff₀ (by positivity), overflowUnits_eq fmt he]

end

/-- The machine's test of an answer is the constraint of R114. -/
theorem rcpAdmissible_iff {fmt : FloatFormat} {w : Nat} (hw : FillsWidth fmt w) {s : Bool} {m : Nat} (hm : m ≠ 0)
    (r : BitVec w) : rcpAdmissible fmt s m (fval fmt r) = true ↔ RcpNear fmt (1 / ratOf fmt (.fin s m)) s r := by
  have hm' : 0 < m := Nat.pos_of_ne_zero hm
  rw [one_div_ratOf_fin]
  cases hr : fval fmt r with
  | nan => simp [rcpAdmissible, RcpNear, hr]
  | inf t =>
    rw [rcpNear_iff_of_inf hw.two_le_expBits (by positivity) hr,
      ← infPattern_le_unboundedPattern_iff fmt hw.two_le_expBits hw.fracBits_pos _ _ hm']
    simp [rcpAdmissible, roundPattern_eq_min]
  | fin t n =>
    rw [rcpNear_iff_of_fin hw.two_le_expBits (by positivity) hr, abs_sub_div_le_relErr_iff hm',
      div_lt_iff₀ (by exact_mod_cast hm')]
    simp only [rcpAdmissible, Bool.and_eq_true, Bool.or_eq_true, beq_iff_eq, decide_eq_true_iff]
    norm_cast

/-- The correctly rounded reciprocal satisfies the constraint (42_arithmetic.md R114, log 4). -/
theorem rcpNear_roundUnits {fmt : FloatFormat} {w : Nat} (hw : FillsWidth fmt w) (hf : 11 ≤ fmt.fracBits) (s : Bool)
    {m : Nat} (hm : m ≠ 0) :
    RcpNear fmt (1 / ratOf fmt (.fin s m)) s (roundUnits fmt w s (rcpNum fmt) m) := by
  have hm' : 0 < m := Nat.pos_of_ne_zero hm
  have he := hw.two_le_expBits
  rw [one_div_ratOf_fin, roundUnits, roundPattern_eq_min]
  rcases Nat.lt_or_ge (unboundedPattern fmt (rcpNum fmt) m) (infPattern fmt) with hlt | hge
  · rw [min_eq_right hlt.le, rcpNear_iff_of_fin he (by positivity) (fval_withSign_of_lt hw s hlt)]
    refine ⟨rfl, ?_⟩
    rcases lt_or_ge ((rcpNum fmt : ℚ) / m) (2 ^ fmt.fracBits) with hsub | hnorm
    · exact .inr ⟨hsub, patternMag_unboundedPattern_le hw.fracBits_pos hm' hsub⟩
    · exact .inl (abs_unboundedPattern_sub_le_relErr hf hm' hnorm)
  · have hinf : fval fmt (withSign fmt w s (infPattern fmt)) = .inf s := by
      rw [fval_withSign fmt w hw.width (by omega) s _ le_rfl, if_pos rfl]
    rw [min_eq_left hge, rcpNear_iff_of_inf he (by positivity) hinf]
    exact ⟨rfl, (infPattern_le_unboundedPattern_iff fmt he hw.fracBits_pos _ _ hm').1 hge⟩

theorem floatRcp_of_fin {fmt : FloatFormat} {w : Nat} {g : BitVec w → BitVec w} {a : BitVec w} {s : Bool} {m : Nat}
    (ha : fval fmt a = .fin s m) (hm : m ≠ 0) :
    floatRcp fmt g a = if rcpAdmissible fmt s m (fval fmt (g a)) then g a else roundUnits fmt w s (rcpNum fmt) m := by
  simp only [floatRcp, ha, hm, if_false]

theorem floatRcp_conforms {fmt : FloatFormat} {w : Nat} (hw : FillsWidth fmt w) (hf : 11 ≤ fmt.fracBits)
    (g : BitVec w → BitVec w) (a : BitVec w) : RcpConforms fmt a (floatRcp fmt g a) := by
  refine ⟨fun ha => by simp only [floatRcp, ha], fun s ha => by simp only [floatRcp, ha, if_true],
    fun s ha => by simp only [floatRcp, ha], fun s m ha hm => ?_⟩
  change RcpNear fmt (1 / ratOf fmt (fval fmt a)) s _
  rw [floatRcp_of_fin ha hm, ha]
  split
  next h => exact (rcpAdmissible_iff hw hm _).1 h
  next => exact rcpNear_roundUnits hw hf s hm

theorem floatRcp_eq_of_conforms {fmt : FloatFormat} {w : Nat} (hw : FillsWidth fmt w) {g : BitVec w → BitVec w}
    {a : BitVec w} (h : RcpConforms fmt a (g a)) : floatRcp fmt g a = g a := by
  obtain ⟨hnan, hzero, hinf, hfin⟩ := h
  cases ha : fval fmt a with
  | nan => simp only [floatRcp, ha, hnan ha]
  | inf s => simp only [floatRcp, ha, hinf s ha]
  | fin s m =>
    rcases eq_or_ne m 0 with rfl | hm
    · simp only [floatRcp, ha, if_true, hzero s ha]
    · have hnear : RcpNear fmt (1 / ratOf fmt (fval fmt a)) s (g a) := hfin s m ha hm
      rw [ha] at hnear
      rw [floatRcp_of_fin ha hm, if_pos ((rcpAdmissible_iff hw hm _).2 hnear)]

/-! The reciprocal square root (42_arithmetic.md R115). -/

/-- What R115 asks of the result `r` for a finite positive operand, `q` being the exact reciprocal root. -/
def RsqrtNear (fmt : FloatFormat) {w : Nat} (q : ℝ) (r : BitVec w) : Prop :=
  ∃ n, fval fmt r = .fin false n ∧ 0 < n ∧ |((ratOf fmt (fval fmt r) : ℚ) : ℝ) - q| ≤ 1 / 2 ^ 12 * q

/-- The exact reciprocal root of `m` units is that of `rsqrtNum / m`, in units. -/
theorem one_div_sqrt_ratOf_fin (fmt : FloatFormat) (m : Nat) :
    1 / √((ratOf fmt (.fin false m) : ℚ) : ℝ) = √((rsqrtNum fmt : ℝ) / m) / 2 ^ unitExp fmt := by
  have hunit : (0 : ℝ) < 2 ^ unitExp fmt := by positivity
  have hsq : (((ratOf fmt (.fin false m) : ℚ) : ℝ))⁻¹ = (rsqrtNum fmt : ℝ) / m / (2 ^ unitExp fmt) ^ 2 := by
    rw [ratOf, signedMag_false, rsqrtNum, Nat.mul_comm 3, pow_mul]
    push_cast
    field_simp
  rw [one_div, ← Real.sqrt_inv, hsq, Real.sqrt_div (by positivity), Real.sqrt_sq hunit.le]

theorem rsqrtNear_iff_of_fin {fmt : FloatFormat} {w : Nat} {r : BitVec w} {n : Nat} {x : ℝ}
    (hr : fval fmt r = .fin false n) :
    RsqrtNear fmt (x / 2 ^ unitExp fmt) r ↔ 0 < n ∧ |(n : ℝ) - x| ≤ 1 / 2 ^ 12 * x := by
  have hunit : (0 : ℝ) < 2 ^ unitExp fmt := by positivity
  rw [RsqrtNear, hr, abs_ratOf_sub, ← mul_div_assoc, div_le_div_iff_of_pos_right hunit, signedMag_false,
    Int.cast_natCast]
  simp

/-- The machine's test of an answer is the constraint of R115. -/
theorem rsqrtAdmissible_iff {fmt : FloatFormat} {w : Nat} {m : Nat} (hm : m ≠ 0) (r : BitVec w) :
    rsqrtAdmissible fmt m (fval fmt r) = true ↔ RsqrtNear fmt (1 / √((ratOf fmt (.fin false m) : ℚ) : ℝ)) r := by
  rw [one_div_sqrt_ratOf_fin]
  cases hr : fval fmt r with
  | nan | inf => simp [rsqrtAdmissible, RsqrtNear, hr]
  | fin t n =>
    cases t with
    | true => simp [rsqrtAdmissible, RsqrtNear, hr]
    | false =>
      rw [rsqrtNear_iff_of_fin hr, abs_sub_sqrt_le_relErr_iff (Nat.pos_of_ne_zero hm)]
      simp only [rsqrtAdmissible, Bool.not_false, Bool.true_and, Bool.and_eq_true, decide_eq_true_iff, and_assoc]

/-- The formats' bias is large against the fraction, so that the reciprocal root of a finite value is a normal one. -/
structure RootsAreNormal (fmt : FloatFormat) : Prop where
  eleven_le_fracBits : 11 ≤ fmt.fracBits
  fracBits_lt : fmt.fracBits + 1 < 2 ^ (fmt.expBits - 1)

theorem floatFormats_rootsAreNormal {f : FloatFormat × Nat} (h : f ∈ floatFormats) : RootsAreNormal f.1 :=
  ⟨by revert f; decide, floatFormats_fracBits_lt h⟩

/-- The reciprocal root of a finite value is neither subnormal nor beyond the finite values. -/
theorem rsqrt_bounds {fmt : FloatFormat} {w : Nat} (hw : FillsWidth fmt w) (hroots : RootsAreNormal fmt)
    {a : BitVec w} {m : Nat} (ha : fval fmt a = .fin false m) (hm : m ≠ 0) :
    unboundedSqrtPattern fmt (rsqrtNum fmt) m < infPattern fmt ∧
      (2 : ℝ) ^ fmt.fracBits ≤ √((rsqrtNum fmt : ℝ) / m) := by
  have hm' : 0 < m := Nat.pos_of_ne_zero hm
  obtain ⟨hfrac, hbias⟩ := hroots
  have hunit : unitExp fmt = 2 ^ (fmt.expBits - 1) - 2 + fmt.fracBits := rfl
  obtain ⟨p, hp, hmag⟩ := exists_finitePattern_of_fval_fin ha
  have hle := hmag.symm.trans_le (patternMag_strictMono fmt hp).le
  rw [patternMag_infPattern fmt hw.two_le_expBits] at hle
  constructor
  · refine unboundedSqrtPattern_lt_infPattern hw hm' ?_
    calc 4 * rsqrtNum fmt = 2 ^ (3 * unitExp fmt + 2) := by rw [rsqrtNum]; ring
      _ < 2 ^ (2 * (unitExp fmt + 2 ^ (fmt.expBits - 1))) := Nat.pow_lt_pow_right (by decide) (by omega)
      _ ≤ 2 ^ (2 * (unitExp fmt + 2 ^ (fmt.expBits - 1))) * m := Nat.le_mul_of_pos_right _ hm'
  · have hnat : (2 ^ fmt.fracBits) ^ 2 * m ≤ rsqrtNum fmt :=
      calc (2 ^ fmt.fracBits) ^ 2 * m ≤ (2 ^ fmt.fracBits) ^ 2 * 2 ^ (unitExp fmt + 2 ^ (fmt.expBits - 1)) :=
            Nat.mul_le_mul_left _ hle
        _ = 2 ^ (2 * fmt.fracBits + (unitExp fmt + 2 ^ (fmt.expBits - 1))) := by ring
        _ ≤ rsqrtNum fmt := Nat.pow_le_pow_right (by decide) (by omega)
    refine Real.le_sqrt_of_sq_le ?_
    rw [le_div_iff₀ (by exact_mod_cast hm')]
    exact_mod_cast hnat

/-- The correctly rounded reciprocal root satisfies the constraint (42_arithmetic.md R115, log 4). -/
theorem rsqrtNear_roundSqrt {fmt : FloatFormat} {w : Nat} (hw : FillsWidth fmt w) (hroots : RootsAreNormal fmt)
    {a : BitVec w} {m : Nat} (ha : fval fmt a = .fin false m) (hm : m ≠ 0) :
    RsqrtNear fmt (1 / √((ratOf fmt (.fin false m) : ℚ) : ℝ))
      (withSign fmt w false (roundSqrtPattern fmt (rsqrtNum fmt) m)) := by
  have hm' : 0 < m := Nat.pos_of_ne_zero hm
  obtain ⟨hlt, hnormal⟩ := rsqrt_bounds hw hroots ha hm
  have hnear := abs_unboundedSqrtPattern_sub_le_relErr hroots.eleven_le_fracBits hm' hnormal
  rw [one_div_sqrt_ratOf_fin, rsqrtNear_iff_of_fin (fval_roundSqrt hw hlt)]
  refine ⟨?_, hnear⟩
  have hpos : (0 : ℝ) < 2 ^ fmt.fracBits := by positivity
  have hmag : (0 : ℝ) < patternMag fmt (unboundedSqrtPattern fmt (rsqrtNum fmt) m) := by
    linarith [(abs_le.1 hnear).1]
  exact_mod_cast hmag

theorem floatRsqrt_of_pos {fmt : FloatFormat} {w : Nat} {g : BitVec w → BitVec w} {a : BitVec w} {m : Nat}
    (ha : fval fmt a = .fin false m) (hm : m ≠ 0) :
    floatRsqrt fmt g a = if rsqrtAdmissible fmt m (fval fmt (g a)) then g a
      else withSign fmt w false (roundSqrtPattern fmt (rsqrtNum fmt) m) := by
  simp only [floatRsqrt, ha, hm, if_false, Bool.false_eq_true]

theorem floatRsqrt_conforms {fmt : FloatFormat} {w : Nat} (hw : FillsWidth fmt w) (hroots : RootsAreNormal fmt)
    (g : BitVec w → BitVec w) (a : BitVec w) : RsqrtConforms fmt a (floatRsqrt fmt g a) := by
  refine ⟨fun ha => by simp only [floatRsqrt, ha], fun s ha => by simp only [floatRsqrt, ha, if_true],
    fun m ha hm => by simp only [floatRsqrt, ha, hm, if_false, if_true],
    fun ha => by simp only [floatRsqrt, ha, if_true],
    fun ha => by simp only [floatRsqrt, ha, if_false, Bool.false_eq_true], fun m ha hm => ?_⟩
  change RsqrtNear fmt (1 / √((ratOf fmt (fval fmt a) : ℚ) : ℝ)) _
  rw [floatRsqrt_of_pos ha hm, ha]
  split
  next h => exact (rsqrtAdmissible_iff hm _).1 h
  next => exact rsqrtNear_roundSqrt hw hroots ha hm

theorem floatRsqrt_eq_of_conforms {fmt : FloatFormat} {w : Nat} {g : BitVec w → BitVec w} {a : BitVec w}
    (h : RsqrtConforms fmt a (g a)) : floatRsqrt fmt g a = g a := by
  obtain ⟨hnan, hzero, hneg, hninf, hpinf, hfin⟩ := h
  cases ha : fval fmt a with
  | nan => simp only [floatRsqrt, ha, hnan ha]
  | inf s =>
    cases s with
    | true => simp only [floatRsqrt, ha, if_true, hninf ha]
    | false => simp only [floatRsqrt, ha, if_false, Bool.false_eq_true, hpinf ha]
  | fin s m =>
    rcases eq_or_ne m 0 with rfl | hm
    · simp only [floatRsqrt, ha, if_true, hzero s ha]
    · cases s with
      | true => simp only [floatRsqrt, ha, hm, if_false, if_true, hneg m ha hm]
      | false =>
        have hnear : RsqrtNear fmt (1 / √((ratOf fmt (fval fmt a) : ℚ) : ℝ)) (g a) := hfin m ha hm
        rw [ha] at hnear
        rw [floatRsqrt_of_pos ha hm, if_pos ((rsqrtAdmissible_iff hm _).2 hnear)]

/-! The statements. -/

/-- Settles O37: the filtered build function conforms in every lane. -/
theorem rcpaConforms : Obligations.RcpaConforms := by
  intro e he
  have hfmt : (e.2.1, shapeWidth e.1) ∈ floatFormats := by revert e; decide
  intro s h
  obtain ⟨g, hexec⟩ : ∃ g, exec e.2.2 s = .next (s.unary e.1 (floatRcp e.2.1 g)) := by
    fin_cases he
    · exact ⟨_, exec_rcpaF64x2 s⟩
    · exact ⟨_, exec_rcpaF32x4 s⟩
  exact unary_lanes hexec (P := RcpConforms e.2.1) (floatRcp_conforms (floatFormats_fillsWidth hfmt)
    (floatFormats_rootsAreNormal hfmt).eleven_le_fracBits g) h

/-- Settles O38: the filtered build function conforms in every lane. -/
theorem rsqaConforms : Obligations.RsqaConforms := by
  intro e he
  have hfmt : (e.2.1, shapeWidth e.1) ∈ floatFormats := by revert e; decide
  intro s h
  obtain ⟨g, hexec⟩ : ∃ g, exec e.2.2 s = .next (s.unary e.1 (floatRsqrt e.2.1 g)) := by
    fin_cases he
    · exact ⟨_, exec_rsqaF64x2 s⟩
    · exact ⟨_, exec_rsqaF32x4 s⟩
  exact unary_lanes hexec (P := RsqrtConforms e.2.1) (floatRsqrt_conforms (floatFormats_fillsWidth hfmt)
    (floatFormats_rootsAreNormal hfmt) g) h

/-- Settles O39: the machine's tests of an answer are the constraints of R114 and R115. -/
theorem conformingApproximationsAreKept : Obligations.ConformingApproximationsAreKept := fun _ hf _ _ =>
  ⟨floatRcp_eq_of_conforms (floatFormats_fillsWidth hf), floatRsqrt_eq_of_conforms⟩

end Sys2Proof.Machine
end

section
/-! PROOFS. The bitwise operations (43_bitwise.md R130 to R134).

Each instruction is the word form over its word operation, in every shape (`BitwiseForms`), and delivers that word
untouched. So each bit of the result is the operation on the operands' bits, and for a mask shape the result is a mask
because the word operation keeps full and clear lanes (`MaskLanes.and` and the lemmas beside it). -/
namespace Sys2Proof.Machine

/-! The delivered word of an operand form. -/

theorem unaryWord_deliversData {i : Instr} {s : State} {sh : Shape} {f : Data → Data}
    (hexec : exec i s = .next (s.unaryWord sh f)) (h : ReadyA s sh) : DeliversData i s sh (f s.ports.a.data) :=
  ⟨_, hexec, unaryWord_spec s sh f h⟩

theorem binaryWord_deliversData {i : Instr} {s : State} {sh : Shape} {f : Data → Data → Data}
    (hexec : exec i s = .next (s.binaryWord sh f)) (h : ReadyAB s sh) :
    DeliversData i s sh (f s.ports.a.data s.ports.b.data) :=
  ⟨_, hexec, binaryWord_spec s sh f h⟩

theorem DeliversData.bits {i : Instr} {s : State} {sh : Shape} {d : Data} (h : DeliversData i s sh d)
    {b : Nat → Bool} (hb : ∀ j, j < 128 → d.getLsbD j = b j) :
    ∃ t, exec i s = .next t ∧ Delivered s t (Shape.tag sh) ∧ ∀ j, j < 128 → t.resData.getLsbD j = b j := by
  obtain ⟨t, ht, hdel, rfl⟩ := h
  exact ⟨t, ht, hdel, hb⟩

/-- A delivered word whose lanes are full or clear is a value of its shape, a mask shape or not. -/
theorem DeliversData.holds {i : Instr} {s : State} {sh : Shape} {d : Data} (h : DeliversData i s sh d)
    (hd : MaskLanes sh d) : ∃ t, exec i s = .next t ∧ Holds ⟨t.resTag, t.resData⟩ sh := by
  obtain ⟨t, ht, ⟨-, htag, -⟩, rfl⟩ := h
  exact ⟨t, ht, htag, htag ▸ (proper_tag_iff sh t.resData).2 fun _ => hd⟩

/-! The four instructions of a shape. -/

/-- AND, OR, XOR and NOT of a shape, in this order, are the word forms over the four word operations. -/
structure BitwiseForms (sh : Shape) (iAnd iOr iXor iNot : Instr) (s : State) : Prop where
  and : exec iAnd s = .next (s.binaryWord sh wordAnd)
  or : exec iOr s = .next (s.binaryWord sh wordOr)
  xor : exec iXor s = .next (s.binaryWord sh wordXor)
  not : exec iNot s = .next (s.unaryWord sh wordNot)

/-- Settles O40: the delivered word is that of the word operation, whose bits are the operation on the operands' bits. -/
theorem bitwiseBits : Obligations.BitwiseBits := by
  intro e he s
  have hforms : BitwiseForms e.1 e.2.1 e.2.2.1 e.2.2.2.1 e.2.2.2.2 s := by
    fin_cases he <;> exact ⟨rfl, rfl, rfl, rfl⟩
  refine ⟨fun h => ⟨?and, ?or, ?xor⟩, fun h => ?not⟩
  case and => exact (binaryWord_deliversData hforms.and h).bits fun _ _ => BitVec.getLsbD_and
  case or => exact (binaryWord_deliversData hforms.or h).bits fun _ _ => BitVec.getLsbD_or
  case xor => exact (binaryWord_deliversData hforms.xor h).bits fun _ _ => BitVec.getLsbD_xor
  case not =>
    refine (unaryWord_deliversData hforms.not h).bits fun j hj => ?_
    rw [wordNot, BitVec.getLsbD_not, decide_eq_true hj, Bool.true_and]

/-- Settles O41: the four word operations keep full and clear lanes. -/
theorem bitwiseMaskClosure : Obligations.BitwiseMaskClosure := by
  intro e he
  have hmask : isMaskTag (Shape.tag e.1) = true := by revert e; decide
  intro s
  have hforms : BitwiseForms e.1 e.2.1 e.2.2.1 e.2.2.2.1 e.2.2.2.2 s := by
    fin_cases he <;> exact ⟨rfl, rfl, rfl, rfl⟩
  refine ⟨fun ⟨ha, hb⟩ => ?binary, fun ha => ?not⟩
  case binary =>
    have hx := ha.maskLanes hmask
    have hy := hb.maskLanes hmask
    simp only [List.forall_mem_cons, List.not_mem_nil, false_imp_iff, implies_true, and_true]
    exact ⟨(binaryWord_deliversData hforms.and ⟨ha, hb⟩).holds (hx.and hy),
      (binaryWord_deliversData hforms.or ⟨ha, hb⟩).holds (hx.or hy),
      (binaryWord_deliversData hforms.xor ⟨ha, hb⟩).holds (hx.xor hy)⟩
  case not => exact (unaryWord_deliversData hforms.not ha).holds (Holds.maskLanes ha hmask).not

end Sys2Proof.Machine
end

section
/-! PROOFS. The comparisons (44_compare.md R140 to R147).

Each instruction is the compare form over a lane predicate, and delivers the mask of that predicate. The six predicates
of a shape are made of three: NE is the negation of EQ, GT and GE are LT and LE with the operands exchanged
(`CompareForms`). What is left is what `<`, `<=` and `==` are on lanes: the order of the signed values on integers, and
on floats the order of the extended real values between lanes that are no NaN. -/
namespace Sys2Proof.Machine

/-! The delivered mask of a comparison. -/

theorem maskLane_eq_allOnes {w : Nat} {p : Bool} (h : p = true) : maskLane w p = BitVec.allOnes w := if_pos h

theorem maskLane_eq_zero {w : Nat} {p : Bool} (h : ¬ p = true) : maskLane w p = 0#w := if_neg h

/-- A comparison delivers the mask of what its predicate decides (44_compare.md R141). -/
theorem compare_deliversMask {i : Instr} {s : State} {sh : Shape}
    {p : BitVec (shapeWidth sh) → BitVec (shapeWidth sh) → Bool} (hexec : exec i s = .next (s.compare sh p))
    (h : ReadyAB s sh) {P : Nat → Prop} (hP : ∀ k, p (laneA s sh k) (laneB s sh k) = true ↔ P k) :
    DeliversMask i s sh P := by
  obtain ⟨hdel, hlanes⟩ := compare_spec s sh p h
  exact ⟨_, hexec, hdel, fun k hk =>
    ⟨fun hk' => (hlanes k hk).trans (maskLane_eq_allOnes ((hP k).2 hk')),
      fun hk' => (hlanes k hk).trans (maskLane_eq_zero (mt (hP k).1 hk'))⟩⟩

/-! The six instructions of a shape. -/

/-- LT, LE, EQ, NE, GT and GE of a shape, in this order, are the compare forms over three lane predicates, the negation
of the third, and the first two with the lanes exchanged (44_compare.md R142 to R147). -/
structure CompareForms (sh : Shape) (less atMost equal : BitVec (shapeWidth sh) → BitVec (shapeWidth sh) → Bool)
    (iLt iLe iEq iNe iGt iGe : Instr) (s : State) : Prop where
  lt : exec iLt s = .next (s.compare sh less)
  le : exec iLe s = .next (s.compare sh atMost)
  eq : exec iEq s = .next (s.compare sh equal)
  ne : exec iNe s = .next (s.compare sh fun a b => !equal a b)
  gt : exec iGt s = .next (s.compare sh fun a b => less b a)
  ge : exec iGe s = .next (s.compare sh fun a b => atMost b a)

/-- The six masks of a shape, from what its three predicates decide of every two lanes. -/
theorem CompareForms.deliverMasks {sh : Shape}
    {less atMost equal : BitVec (shapeWidth sh) → BitVec (shapeWidth sh) → Bool}
    {iLt iLe iEq iNe iGt iGe : Instr} {s : State} (forms : CompareForms sh less atMost equal iLt iLe iEq iNe iGt iGe s)
    (h : ReadyAB s sh) {Less AtMost Equal Greater AtLeast : BitVec (shapeWidth sh) → BitVec (shapeWidth sh) → Prop}
    (hlt : ∀ a b, less a b = true ↔ Less a b) (hle : ∀ a b, atMost a b = true ↔ AtMost a b)
    (heq : ∀ a b, equal a b = true ↔ Equal a b) (hgt : ∀ a b, less b a = true ↔ Greater a b)
    (hge : ∀ a b, atMost b a = true ↔ AtLeast a b) :
    DeliversMask iLt s sh (fun k => Less (laneA s sh k) (laneB s sh k)) ∧
      DeliversMask iLe s sh (fun k => AtMost (laneA s sh k) (laneB s sh k)) ∧
      DeliversMask iEq s sh (fun k => Equal (laneA s sh k) (laneB s sh k)) ∧
      DeliversMask iNe s sh (fun k => ¬ Equal (laneA s sh k) (laneB s sh k)) ∧
      DeliversMask iGt s sh (fun k => Greater (laneA s sh k) (laneB s sh k)) ∧
      DeliversMask iGe s sh (fun k => AtLeast (laneA s sh k) (laneB s sh k)) :=
  ⟨compare_deliversMask forms.lt h fun _ => hlt _ _,
    compare_deliversMask forms.le h fun _ => hle _ _,
    compare_deliversMask forms.eq h fun _ => heq _ _,
    compare_deliversMask forms.ne h fun _ => Bool.not_iff_not.trans (not_congr (heq _ _)),
    compare_deliversMask forms.gt h fun _ => hgt _ _,
    compare_deliversMask forms.ge h fun _ => hge _ _⟩

/-! Integer lanes. -/

theorem intLt_eq_true_iff {w : Nat} (a b : BitVec w) : intLt a b = true ↔ a.toInt < b.toInt := decide_eq_true_iff

theorem intLe_eq_true_iff {w : Nat} (a b : BitVec w) : intLe a b = true ↔ a.toInt ≤ b.toInt := decide_eq_true_iff

theorem intEq_eq_true_iff {w : Nat} (a b : BitVec w) : intEq a b = true ↔ a.toInt = b.toInt := decide_eq_true_iff

/-- Settles O43: the lane predicates decide the relations of the signed values. -/
theorem integerCompareMasks : Obligations.IntegerCompareMasks := by
  intro e he s h
  have forms : CompareForms e.1 intLt intLe intEq
      e.2.1 e.2.2.1 e.2.2.2.1 e.2.2.2.2.1 e.2.2.2.2.2.1 e.2.2.2.2.2.2 s := by
    fin_cases he <;> exact ⟨rfl, rfl, rfl, rfl, rfl, rfl⟩
  exact forms.deliverMasks h intLt_eq_true_iff intLe_eq_true_iff intEq_eq_true_iff
    (fun a b => intLt_eq_true_iff b a) (fun a b => intLe_eq_true_iff b a)

/-! Float lanes: a NaN is in no relation, and without one the machine's order is that of the extended real values. -/

/-- Neither lane is a NaN (44_compare.md R140). -/
def Ordered (fmt : FloatFormat) {w : Nat} (a b : BitVec w) : Prop := fval fmt a ≠ .nan ∧ fval fmt b ≠ .nan

theorem leVals_nan_right (x : FloatVal) : leVals x .nan = false := by cases x <;> rfl

section
variable (fmt : FloatFormat) {w : Nat} (a b : BitVec w)

theorem ordered_comm : Ordered fmt a b ↔ Ordered fmt b a := and_comm

theorem floatLe_eq_true_iff :
    floatLe fmt a b = true ↔ Ordered fmt a b ∧ extOf fmt (fval fmt a) ≤ extOf fmt (fval fmt b) := by
  rw [floatLe]
  by_cases ha : fval fmt a = .nan
  · simp [Ordered, ha, leVals]
  by_cases hb : fval fmt b = .nan
  · simp [Ordered, hb, leVals_nan_right]
  rw [leVals_eq_true_iff fmt ha hb, and_iff_right ⟨ha, hb⟩]

theorem floatLt_eq_true_iff :
    floatLt fmt a b = true ↔ Ordered fmt a b ∧ extOf fmt (fval fmt a) < extOf fmt (fval fmt b) := by
  have hdef : floatLt fmt a b = true ↔ floatLe fmt a b = true ∧ ¬ floatLe fmt b a = true := by
    rw [floatLt, ← floatLe, ← floatLe, Bool.and_eq_true, Bool.not_iff_not]
  rw [hdef, floatLe_eq_true_iff, floatLe_eq_true_iff, ordered_comm fmt b a, lt_iff_le_not_ge]
  tauto

theorem floatEq_eq_true_iff :
    floatEq fmt a b = true ↔ Ordered fmt a b ∧ extOf fmt (fval fmt a) = extOf fmt (fval fmt b) := by
  have hdef : floatEq fmt a b = true ↔ floatLe fmt a b = true ∧ floatLe fmt b a = true := by
    rw [floatEq, ← floatLe, ← floatLe, Bool.and_eq_true]
  rw [hdef, floatLe_eq_true_iff, floatLe_eq_true_iff, ordered_comm fmt b a, ← and_and_left, le_antisymm_iff]

end

/-- Settles O44: the lane predicates decide the relations of the extended real values between ordered lanes. -/
theorem floatCompareMasks : Obligations.FloatCompareMasks := by
  intro e he s h
  have forms : CompareForms e.1 (floatLt e.2.1) (floatLe e.2.1) (floatEq e.2.1)
      e.2.2.1 e.2.2.2.1 e.2.2.2.2.1 e.2.2.2.2.2.1 e.2.2.2.2.2.2.1 e.2.2.2.2.2.2.2 s := by
    fin_cases he <;> exact ⟨rfl, rfl, rfl, rfl, rfl, rfl⟩
  exact forms.deliverMasks h (floatLt_eq_true_iff e.2.1) (floatLe_eq_true_iff e.2.1) (floatEq_eq_true_iff e.2.1)
    (fun a b => (floatLt_eq_true_iff e.2.1 b a).trans (and_congr_left' (ordered_comm e.2.1 b a)))
    (fun a b => (floatLe_eq_true_iff e.2.1 b a).trans (and_congr_left' (ordered_comm e.2.1 b a)))

end Sys2Proof.Machine
end

section
/-! PROOFS. The permutation network (45_rearrange.md R150 to R152).

SWIZZLE and SHUFFLE are the instructions with an index limit, so a range error names one of them, and its issue has
passed the checks of the ports when it fails that of the indices. With good indices the nine instructions of each are
the forms `swizzle` and `shuffle` of their shapes, whose lanes `swizzle_spec` and `shuffle_spec` give. -/
namespace Sys2Proof.Machine

/-- CHECK reads no index (45_rearrange.md R150). -/
theorem not_rangeErrorHolds_of_check {i : Instr} (h : Instr.opc i = .check) (s : State) : ¬ RangeErrorHolds i s := by
  simp [RangeErrorHolds, indexLimit, h]

/-- Settles O16: the instruction is not CHECK, and its issue passes the checks of the ports and fails that of the
indices. -/
theorem rangeErrorLeavesNoneAndZero : Obligations.RangeErrorLeavesNoneAndZero := by
  intro i s htype hshape hrange
  have hc : Instr.opc i ≠ .check := fun hc => not_rangeErrorHolds_of_check hc s hrange
  rw [shapeMismatchHolds_iff htype, Bool.not_eq_true] at hshape
  rw [typeMismatchHolds_iff_of_ne_check hc, Bool.not_eq_true] at htype
  rw [rangeErrorHolds_iff] at hrange
  obtain ⟨v, hexec, -⟩ := exec_eq_issue hc s
  rw [hrange, issue_of_range _ _ _ htype hshape] at hexec
  exact ⟨_, hexec, raiseError_raised s .rangeError⟩

/-- Settles O45: the nine instructions are the SWIZZLE of their shapes, which takes lane `idx_k` of A as it is. -/
theorem swizzleLanes : Obligations.SwizzleLanes := by
  intro e he
  have hi : e.2 = swizzleInstr e.1 := by
    revert e
    decide
  intro s ha hbelow
  rw [hi]
  exact ⟨_, exec_swizzleInstr e.1 s, swizzle_spec s e.1 ha hbelow⟩

/-- Settles O46: the nine instructions are the SHUFFLE of their shapes, and `shuffleLane` is the split at `N`. -/
theorem shuffleLanes : Obligations.ShuffleLanes := by
  intro e he
  have hi : e.2 = shuffleInstr e.1 := by
    revert e
    decide
  intro s hab hbelow
  rw [hi]
  exact ⟨_, exec_shuffleInstr e.1 s, shuffle_spec s e.1 hab hbelow⟩

end Sys2Proof.Machine
end

section
/-! PROOFS. The lane and bit multiplexers (46_select.md R160, R161).

The nine SELECT instructions are the form `select` of their shapes, and the five BITSELECT instructions the form
`bitSelect`. SELECT's form chooses lane by lane as the rule says; BITSELECT's delivers one word made by AND, OR and NOT,
whose bits are those of a multiplexer (`getLsbD_bitBlend`). -/
namespace Sys2Proof.Machine

theorem select_deliversLanes {i : Instr} {s : State} {sh : Shape} (hexec : exec i s = .next (s.select sh))
    (ha : HoldsMask s.ports.a sh) (hb : Holds s.ports.b sh) (hc : Holds s.ports.c sh) :
    DeliversLanes i s sh fun k =>
      if laneA s sh k = BitVec.allOnes (shapeWidth sh) then laneB s sh k else laneC s sh k :=
  ⟨_, hexec, select_spec s sh ha hb hc⟩

/-- Port A may carry a value of any shape (40_issue_and_check.md R84). -/
theorem bitSelect_deliversData {i : Instr} {s : State} {sh : Shape} (hexec : exec i s = .next (s.bitSelect sh))
    (ha : Proper s.ports.a) (hb : Holds s.ports.b sh) (hc : Holds s.ports.c sh) :
    DeliversData i s sh ((s.ports.b.data &&& s.ports.a.data) ||| (s.ports.c.data &&& ~~~s.ports.a.data)) :=
  ⟨_, hexec, bitSelect_spec s sh ha hb hc⟩

/-- A set bit of `a` lets the bit of `b` through and blocks that of `c`; a clear bit does the opposite. -/
theorem getLsbD_bitBlend {w j : Nat} (a b c : BitVec w) (hj : j < w) :
    ((b &&& a) ||| (c &&& ~~~a)).getLsbD j = if a.getLsbD j then b.getLsbD j else c.getLsbD j := by
  rw [BitVec.getLsbD_or, BitVec.getLsbD_and, BitVec.getLsbD_and, BitVec.getLsbD_not, decide_eq_true hj, Bool.true_and]
  cases a.getLsbD j with
  | true => simp
  | false => simp

/-- Settles O49: the nine instructions are the SELECT of their shapes. -/
theorem selectLanes : Obligations.SelectLanes := by
  intro e he s ha hb hc
  have hexec : exec e.2 s = .next (s.select e.1) := by
    fin_cases he <;> rfl
  exact select_deliversLanes hexec ha hb hc

/-- Settles O50: the five instructions are the BITSELECT of their shapes, and the blended word is a multiplexer in each
bit. -/
theorem bitSelectBits : Obligations.BitSelectBits := by
  intro e he s ha hb hc
  have hexec : exec e.2 s = .next (s.bitSelect e.1) := by
    fin_cases he <;> rfl
  exact (bitSelect_deliversData hexec ha hb hc).bits fun _ hj => getLsbD_bitBlend _ _ _ hj

end Sys2Proof.Machine
end

section
/-! PROOFS. Every step (60_exceptions.md R170 to R175, 70_reset_and_hazards.md R190 to R197): that it answers, what it
does to the inputs, and the code an issue reports.

A step of any kind writes the result register alone and then presents the host's next inputs (`step_eq_present`). The
code of an issue is that of the first error condition that holds, since the statements of the four outcomes each assume
that the conditions before theirs do not. -/
namespace Sys2Proof.Machine

theorem step_eq_present (s : State) : ∃ u, SameInputs s u ∧ step s = .next u.present := by
  by_cases h : s.ports.reset = true ∨ s.ports.opValid = true
  · rcases step_of_reset_or_issue s h with hstep | ⟨a, -, hstep⟩
    · exact ⟨s.resetStep, ⟨rfl, rfl⟩, hstep s rfl⟩
    · exact ⟨s.record a, record_sameInputs s a, hstep s rfl⟩
  · obtain ⟨hr, hv⟩ : s.ports.reset = false ∧ s.ports.opValid = false := by simpa using h
    exact ⟨s.idleStep, ⟨rfl, rfl⟩, step_of_idle s hr hv⟩

/-- Settles O2: a reset writes the reset values, and presenting the host's next inputs writes no result field. -/
theorem resetStepWritesResetValues : Obligations.ResetStepWritesResetValues := by
  intro s hr
  exact ⟨_, step_of_reset s hr, present_resValid _, present_resTag _, present_resData _, present_resErr _⟩

/-- Settles O5: a step of any kind presents the host's next inputs in some state. -/
theorem everyStepAnswersNext : Obligations.EveryStepAnswersNext := by
  intro s
  obtain ⟨u, -, hstep⟩ := step_eq_present s
  exact ⟨u.present, hstep⟩

/-- Settles O6: the state in which a step presents the host's next inputs still has the inputs the step began with. -/
theorem stepTakesHostInputsInOrder : Obligations.StepTakesHostInputsInOrder := by
  intro s t ht
  obtain ⟨u, ⟨hports, hpending⟩, hstep⟩ := step_eq_present s
  cases hstep.symm.trans ht
  refine ⟨fun p ps hs => present_cons u p ps (hpending.trans hs), fun hs => ?_⟩
  rw [present_nil u (hpending.trans hs)]
  exact ⟨hports, hpending.trans hs⟩

theorem RaisesCode.resErr_eq {i : Instr} {s t : State} {code : ErrCode} (h : RaisesCode i s code)
    (ht : exec i s = .next t) : t.resErr = code := by
  obtain ⟨t', ht', -, -, -, hcode, -⟩ := h
  cases ht'.symm.trans ht
  exact hcode

theorem resErr_eq_zero_of_ready {i : Instr} {s t : State} (htype : ¬ TypeMismatchHolds i s)
    (hshape : ¬ ShapeMismatchHolds i s) (hrange : ¬ RangeErrorHolds i s) (ht : exec i s = .next t) :
    t.resErr = 0#3 := by
  obtain ⟨t', ht', -, -, hcode, -⟩ := readyOperationDelivers i s htype hshape hrange
  cases ht'.symm.trans ht
  exact hcode

/-- Settles O13: a word is illegal or decodes to an instruction, whose outcome is that of its first failing check. -/
theorem errorCodeFollowsPriority : Obligations.ErrorCodeFollowsPriority := by
  intro s hr hv
  cases hd : decodeWord s.ports.op with
  | error e =>
    exact ⟨_, step_of_reserved s e hr hv hd, fun _ => present_resErr _, fun i hi => nomatch hi⟩
  | ok i =>
    obtain ⟨t, u, ht, hu, ⟨-, -, -, hcode⟩, -⟩ := stepRunsDecodedInstruction s i hr hv hd
    have hlegal : legalWord s.ports.op = true := (decodeSucceedsExactlyOnLegalWords _).1 ⟨i, hd⟩
    refine ⟨u, hu, fun hillegal => absurd hlegal (by simp [hillegal]), fun j hj => ?_⟩
    cases hj
    rw [← hcode]
    exact ⟨fun htype => (typeMismatchLeavesNoneAndZero i s htype).resErr_eq ht,
      fun htype hshape => (shapeMismatchLeavesNoneAndZero i s htype hshape).resErr_eq ht,
      fun htype hshape hrange => (rangeErrorLeavesNoneAndZero i s htype hshape hrange).resErr_eq ht,
      fun htype hshape hrange => resErr_eq_zero_of_ready htype hshape hrange ht⟩

end Sys2Proof.Machine
end

section
/-! PROOFS. Platforms of several blocks (60_exceptions.md R182): a clock period replaces one instance of the list. -/
namespace Sys2Proof.Machine

theorem platformStep_of_none {units : List State} {k : Nat} (hk : units[k]? = none) :
    platformStep units k = units := by
  simp [platformStep, hk]

theorem platformStep_of_step {units : List State} {k : Nat} {s t : State} (hk : units[k]? = some s)
    (ht : step s = .next t) : platformStep units k = units.set k t := by
  simp [platformStep, hk, ht]

/-- Settles O60: there is no instance `k`, or its entry of the list is set to the next state its step answers. -/
theorem instancesShareNoState : Obligations.InstancesShareNoState := by
  intro units k
  cases hk : units[k]? with
  | none =>
    rw [platformStep_of_none hk]
    exact ⟨rfl, fun _ _ => rfl, fun s t hs => nomatch hs⟩
  | some s =>
    obtain ⟨t, ht⟩ := everyStepAnswersNext s
    rw [platformStep_of_step hk ht]
    refine ⟨List.length_set, fun j hj => List.getElem?_set_ne hj.symm, fun s' t' hs' ht' => ?_⟩
    cases hs'
    cases ht.symm.trans ht'
    obtain ⟨hlt, -⟩ := List.getElem?_eq_some_iff.1 hk
    exact List.getElem?_set_self hlt

end Sys2Proof.Machine
end
